-- ==== Sys2Proof/Word.lean ====
section
/-! DEFINITION. The word types of the Improv-WiFi protocol engine (spec/00_scope.md section 6 and rule R6). -/

namespace Sys2Proof

/-- A byte: an unsigned 8-bit integer (00_scope.md section 6). -/
abbrev Byte := BitVec 8

/-- `bytes`: a finite list of bytes (00_scope.md section 6; text is opaque bytes, R63). -/
abbrev Bytes := List Byte

/-- A value of the 9-bit register `pos` (`POS_WIDTH`, R6 and R20). -/
abbrev Pos := BitVec 9

/-- A timestamp or a duration, in milliseconds: `TIME_WIDTH` = 32 bits (R6, R240). -/
abbrev Time := BitVec 32

/-- A signal strength: `RSSI_WIDTH` = 8 bits, two's complement (R6, R182). -/
abbrev Rssi := BitVec 8

/-- A subscriber handle of an observer list (R39). -/
abbrev Handle := Nat

end Sys2Proof
end

