-- ==== Sys2Proof/Config.lean ====
section
/-! DEFINITION. The configuration registers (R34 to R39), the parameters of R6, and the free values of the model. -/

namespace Sys2Proof

/-- The configuration: written by the owning application before the first event after reset and read-only for the
block (10_state.md section 5). The version constant of R34 is hard-wired and stands in Decode.lean. -/
structure Config where
  /-- `cfg_chip_family` (R35). -/
  chipFamily : Bytes
  /-- `cfg_fw_name` (R35). -/
  fwName : Bytes
  /-- `cfg_fw_version` (R35). -/
  fwVersion : Bytes
  /-- `cfg_dev_name` (R35). -/
  devName : Bytes
  /-- `MAX_RETRIES`, 1 to 255 (R37). -/
  maxRetries : Byte
  /-- `T_INACT` (R38). -/
  tInact : Time
  /-- `T_ATTEMPT` (R38). -/
  tAttempt : Time
  /-- The strap `CRED_AVAIL_AT_RESET` (R6, R29). -/
  credAvailAtReset : Bool
  /-- `OBS_ON_WIRE_ERROR`, `false` for this hardware, the alternative kept as a parameter (R6, R222; log entry 7). -/
  obsOnWireError : Bool
  /-- `ERR_WIFI_DISCONNECTED`, an observer-only code of no stated width (R6, R244). -/
  errWifiDisconnected : Nat
  /-- `ERR_CONNECT_GIVEUP`, an observer-only code of no stated width (R6, R244). -/
  errConnectGiveup : Nat
  /-- The `connected` observers, in registration order (R39). -/
  connectedObservers : List Handle
  /-- The `error` observers, in registration order (R39). -/
  errorObservers : List Handle
  /-- The `disconnected` observers, in registration order (R39). -/
  disconnectedObservers : List Handle
deriving DecidableEq, Repr

/-- The parameter ranges of R6, R37, R38 and R244: a premise of statements (U25), not a condition of the machine, which
runs its rules with every configuration (log entry 7). -/
def Config.inRange (c : Config) : Bool :=
  decide (1 ≤ c.maxRetries.toNat) &&
  decide (0 < c.tInact.toNat) && decide (c.tInact.toNat < 2 ^ 31) &&
  decide (0 < c.tAttempt.toNat) && decide (c.tAttempt.toNat < 2 ^ 31) &&
  decide (4 < c.errWifiDisconnected) && decide (4 < c.errConnectGiveup) &&
  decide (c.errWifiDisconnected ≠ c.errConnectGiveup)

/-- The length bound of R35 under which the device-info response fits one frame. -/
def Config.deviceInfoFits (c : Config) : Bool :=
  decide (4 + c.fwName.length + c.fwVersion.length + c.chipFamily.length + c.devName.length ≤ 253)

/-- FREE VALUE (log entry 6): what a credential register holds after it is handed a string longer than the 255 bytes
it has room for (R26). The spec states no result there; nothing constrains this value. -/
opaque Config.overlongText : Bytes → Bytes

/-- FREE VALUE (log entry 20): what `retries_done` holds after it is incremented at 255, its largest value, given the
number of outputs so far. The spec states no result there (R27, R196); no run comes there with `MAX_RETRIES` in its range
(R37). -/
opaque Config.retriesPastEnd : Nat → Byte

end Sys2Proof
end

