-- ==== Sys2Proof/Syntax.lean ====
section
/-! DEFINITION. The instructions: one constructor per row of spec/opcode_table.json, and the Command value of R130. -/

namespace Sys2Proof

/-- The decoded command (R130): a closed type of six variants. -/
inductive Command where
  | getCurrentState
  | wifiSettings (ssid password : Bytes)
  | getDeviceInfo
  | getWifiNetworks
  | unknown
  | badChecksum
deriving DecidableEq, Repr

/-- The codec's two verdicts on a payload that it cannot decode (R130), the operand of `DispatchUnknown` (R176). -/
inductive Verdict where
  | unknown
  | badChecksum
deriving DecidableEq, Repr

/-- The `format` column of the opcode table (R96). -/
inductive Format where
  | frame
  | rpc
  | step
  | op
deriving DecidableEq, Repr

/-- The instructions. A FRAME constructor is a complete, checksum-valid frame as it is received, its operand the
payload (R80, R81: length and checksum are functions of the other bytes). An RPC constructor is the payload of an
`RPC_COMMAND` frame, with every data byte an operand, those the rules ignore included (R88, R137, R138). A STEP
constructor is one received byte in a step class of the parser. An OP constructor is an event or a procedure. -/
inductive Instr where
  -- FRAME rows
  /-- `CURRENT_STATE`, type 01 (R84, R121). -/
  | currentState (payload : Bytes)
  /-- `ERROR_STATE`, type 02 (R84, R121). -/
  | errorState (payload : Bytes)
  /-- `RPC_COMMAND`, type 03 (R84, R118). -/
  | rpcCommand (payload : Bytes)
  /-- `RPC_RESPONSE`, type 04 (R84, R121). -/
  | rpcResponse (payload : Bytes)
  /-- `FRAME_RESERVED_TYPE`: type 00 or 05 to FF (R85). -/
  | frameReservedType (type : Byte) (payload : Bytes)
  -- RPC rows
  /-- `WifiSettings`, command 01; `trailing` are the data bytes after the password (R92, R137). -/
  | wifiSettings (ssid password trailing : Bytes)
  /-- `GetCurrentState`, command 02; `data` is not looked at (R138). -/
  | getCurrentState (data : Bytes)
  /-- `GetDeviceInfo`, command 03; `data` is not looked at (R138). -/
  | getDeviceInfo (data : Bytes)
  /-- `GetWifiNetworks`, command 04; `data` is not looked at (R138). -/
  | getWifiNetworks (data : Bytes)
  /-- `RPC_RESERVED_COMMAND`: command 00 or 05 to FF (R90). -/
  | rpcReservedCommand (command : Byte) (data : Bytes)
  /-- `RPC_MALFORMED`: a payload that fails the length check or the `WifiSettings` bounds (R132, R136). -/
  | rpcMalformed (payload : Bytes)
  -- STEP rows
  /-- `P_PREAMBLE` (R111). -/
  | pPreamble (b : Byte)
  /-- `P_VERSION` (R112). -/
  | pVersion (b : Byte)
  /-- `P_TYPE` (R113). -/
  | pType (b : Byte)
  /-- `P_LENGTH` (R114). -/
  | pLength (b : Byte)
  /-- `P_PAYLOAD` (R115). -/
  | pPayload (b : Byte)
  /-- `P_CHECKSUM` (R116). -/
  | pChecksum (b : Byte)
  /-- `P_CHECKSUM_MISMATCH` (R117). -/
  | pChecksumMismatch (b : Byte)
  /-- `P_CHECKSUM_MATCH` (R118). -/
  | pChecksumMatch (b : Byte)
  -- OP rows: the three events
  /-- The event `RxByte(b)` (R126). -/
  | rxByte (b : Byte)
  /-- The event `Tick` (R203). -/
  | tick
  /-- The event `Reset` (R250). -/
  | reset
  -- OP rows: the codec
  /-- `Decode(p, check)` (R139). -/
  | decode (p : Bytes) (check : Bool)
  /-- `BuildRpcResponse(tag, fields, with_checksum)` (R140). -/
  | buildRpcResponse (tag : Byte) (fields : List Bytes) (withChecksum : Bool)
  -- OP rows: the emitter
  /-- `MakeFrame(T, payload)` (R150). -/
  | makeFrame (type : Byte) (payload : Bytes)
  /-- `EmitState(s)` (R151). -/
  | emitState (v : Byte)
  /-- `EmitError(e)` (R152). -/
  | emitError (e : Byte)
  /-- `EmitRpcResponse(tag, fields)` (R153). -/
  | emitRpcResponse (tag : Byte) (fields : List Bytes)
  /-- `Emit(f)` (R154). -/
  | emit (f : Bytes)
  -- OP rows: the RPC state machine
  /-- `SetState(s)` (R166). -/
  | setState (v : Byte)
  /-- `SetError(e)` (R222). -/
  | setError (e : Byte)
  /-- `Dispatch(cmd)` (R168). -/
  | dispatch (cmd : Command)
  /-- `Dispatch(Unknown | BadChecksum)` (R176). -/
  | dispatchUnknown (v : Verdict)
  /-- `SendDeviceUrl(tag)` (R177). -/
  | sendDeviceUrl (tag : Byte)
  /-- The environment query `TryConnect(ssid, password)` (R181). -/
  | tryConnect (ssid password : Bytes)
  -- OP rows: the Connection Manager
  /-- `CM_CycleStart` (R193). -/
  | cmCycleStart
  /-- `CM_Success` (R195). -/
  | cmSuccess
  /-- `CM_Timeout` (R196). -/
  | cmTimeout
  /-- `CM_Exhaustion` (R197). -/
  | cmExhaustion
  /-- `CM_GiveUp` (R198). -/
  | cmGiveUp
  /-- `CM_Edge` (R199). -/
  | cmEdge
deriving DecidableEq, Repr

/-- The `format` column of an instruction's row of the opcode table. -/
def Instr.format : Instr → Format
  | .currentState _ | .errorState _ | .rpcCommand _ | .rpcResponse _ | .frameReservedType _ _ => .frame
  | .wifiSettings _ _ _ | .getCurrentState _ | .getDeviceInfo _ | .getWifiNetworks _
  | .rpcReservedCommand _ _ | .rpcMalformed _ => .rpc
  | .pPreamble _ | .pVersion _ | .pType _ | .pLength _ | .pPayload _ | .pChecksum _
  | .pChecksumMismatch _ | .pChecksumMatch _ => .step
  | .rxByte _ | .tick | .reset | .decode _ _ | .buildRpcResponse _ _ _ | .makeFrame _ _ | .emitState _
  | .emitError _ | .emitRpcResponse _ _ | .emit _ | .setState _ | .setError _ | .dispatch _ | .dispatchUnknown _
  | .sendDeviceUrl _ | .tryConnect _ _ | .cmCycleStart | .cmSuccess | .cmTimeout | .cmExhaustion | .cmGiveUp
  | .cmEdge => .op

/-- The `mnemonic` column of an instruction's row of the opcode table. -/
def Instr.mnemonic : Instr → String
  | .currentState _ => "CURRENT_STATE"
  | .errorState _ => "ERROR_STATE"
  | .rpcCommand _ => "RPC_COMMAND"
  | .rpcResponse _ => "RPC_RESPONSE"
  | .frameReservedType _ _ => "FRAME_RESERVED_TYPE"
  | .wifiSettings _ _ _ => "WifiSettings"
  | .getCurrentState _ => "GetCurrentState"
  | .getDeviceInfo _ => "GetDeviceInfo"
  | .getWifiNetworks _ => "GetWifiNetworks"
  | .rpcReservedCommand _ _ => "RPC_RESERVED_COMMAND"
  | .rpcMalformed _ => "RPC_MALFORMED"
  | .pPreamble _ => "P_PREAMBLE"
  | .pVersion _ => "P_VERSION"
  | .pType _ => "P_TYPE"
  | .pLength _ => "P_LENGTH"
  | .pPayload _ => "P_PAYLOAD"
  | .pChecksum _ => "P_CHECKSUM"
  | .pChecksumMismatch _ => "P_CHECKSUM_MISMATCH"
  | .pChecksumMatch _ => "P_CHECKSUM_MATCH"
  | .rxByte _ => "RxByte"
  | .tick => "Tick"
  | .reset => "Reset"
  | .decode _ _ => "Decode"
  | .buildRpcResponse _ _ _ => "BuildRpcResponse"
  | .makeFrame _ _ => "MakeFrame"
  | .emitState _ => "EmitState"
  | .emitError _ => "EmitError"
  | .emitRpcResponse _ _ => "EmitRpcResponse"
  | .emit _ => "Emit"
  | .setState _ => "SetState"
  | .setError _ => "SetError"
  | .dispatch _ => "Dispatch"
  | .dispatchUnknown _ => "DispatchUnknown"
  | .sendDeviceUrl _ => "SendDeviceUrl"
  | .tryConnect _ _ => "TryConnect"
  | .cmCycleStart => "CM_CycleStart"
  | .cmSuccess => "CM_Success"
  | .cmTimeout => "CM_Timeout"
  | .cmExhaustion => "CM_Exhaustion"
  | .cmGiveUp => "CM_GiveUp"
  | .cmEdge => "CM_Edge"

end Sys2Proof
end

