-- ==== Sys2Proof/WellFormed.lean ====
section
/-! DEFINITION. Which instructions the spec's encodings and signatures admit: lengths that a length byte can say,
reserved classes that hold only reserved values, operands in the range their rule gives. -/

namespace Sys2Proof

/-- The four assigned type values and, alike, the four assigned command values are 1 to 4 (R84, R89). -/
def assigned (v : Byte) : Bool := v = 0x01#8 || v = 0x02#8 || v = 0x03#8 || v = 0x04#8

/-- The four state payload values (R86). -/
def legalState (v : Byte) : Bool := v = 0x00#8 || v = 0x02#8 || v = 0x03#8 || v = 0x04#8

/-- The wire error codes `0x00` to `0x04` (R221, R222). -/
def wireError (e : Byte) : Bool := decide (e.toNat ≤ 4)

/-- Whether two length-prefixed strings stand at the front of `a` (the bounds of R136). -/
def holdsTwoFields (a : Bytes) : Bool :=
  match a with
  | [] => false
  | sl :: r =>
    match r.drop sl.toNat with
    | [] => false
    | pl :: q => decide (pl.toNat ≤ q.length)

/-- The condition of the row `RPC_MALFORMED`: too short for its header, a data length byte that does not say how many
bytes follow (R132), or `WifiSettings` lengths that overrun the data (R136). -/
def malformedPayload (p : Bytes) : Bool :=
  match p with
  | c :: d :: a => d.toNat ≠ a.length || (c = 0x01#8 && !holdsTwoFields a)
  | _ => true

/-- An instruction that the spec's encoding or signature admits. -/
def Instr.wellFormed : Instr → Bool
  | .currentState p | .errorState p | .rpcCommand p | .rpcResponse p => decide (p.length ≤ 255)
  | .frameReservedType t p => !assigned t && decide (p.length ≤ 255)
  | .wifiSettings ssid pw tr => decide (2 + ssid.length + pw.length + tr.length ≤ 253)
  | .getCurrentState d | .getDeviceInfo d | .getWifiNetworks d => decide (d.length ≤ 253)
  | .rpcReservedCommand c d => !assigned c && decide (d.length ≤ 253)
  | .rpcMalformed p => decide (p.length ≤ 255) && malformedPayload p
  | .pPreamble _ | .pVersion _ | .pType _ | .pLength _ | .pPayload _ | .pChecksum _
  | .pChecksumMismatch _ | .pChecksumMatch _ => true
  | .rxByte _ | .tick | .reset => true
  | .decode _ _ | .buildRpcResponse _ _ _ => true
  | .makeFrame _ p => decide (p.length ≤ 255)
  | .emitState v | .setState v => legalState v
  | .emitError e | .setError e => wireError e
  | .emitRpcResponse _ _ | .emit _ => true
  | .dispatch (.wifiSettings ssid pw) => decide (ssid.length ≤ 255) && decide (pw.length ≤ 255)
  | .dispatch _ | .dispatchUnknown _ | .sendDeviceUrl _ => true
  | .tryConnect ssid pw => decide (ssid.length ≤ 255) && decide (pw.length ≤ 255)
  | .cmCycleStart | .cmSuccess | .cmTimeout | .cmExhaustion | .cmGiveUp | .cmEdge => true

end Sys2Proof
end

