-- ==== Sys2Proof/Decode.lean ====
section
/-! DEFINITION. The wire format: checksum, frames and fields, the opcode table's patterns, the decoder of each format,
the encoder, and the decoder of a table word. -/

namespace Sys2Proof

/-! ## Constants and sums -/

/-- `PREAMBLE`, ASCII "IMPROV" (R6, R80). -/
def preamble : Bytes := [0x49#8, 0x4D#8, 0x50#8, 0x52#8, 0x4F#8, 0x56#8]

/-- `PREAMBLE[k]`. -/
def preambleAt (k : Nat) : Byte := preamble.getD k 0x00#8

/-- `VERSION`, hard-wired (R5, R34). -/
def version : Byte := 0x01#8

/-- `sum8(s)`: the sum of the elements modulo 256 (00_scope.md section 6, R83). -/
def sum8 : Bytes → Byte
  | [] => 0x00#8
  | b :: r => b + sum8 r

/-- A length byte: the low 8 bits of a length (R80, R88, R91). Of the machine's rules none puts a length above 255 into one;
where the notation of R97 does, log entry 19 says so. -/
def lengthByte (n : Nat) : Byte := BitVec.ofNat 8 n

/-- A field: one length byte followed by that many bytes (R91). -/
def field (s : Bytes) : Bytes := lengthByte s.length :: s

/-- The concatenation, in order, of the fields of a list of strings (R91, R140). -/
def fieldsBody : List Bytes → Bytes
  | [] => []
  | f :: r => field f ++ fieldsBody r

/-- An RPC payload: command byte, data length byte, data (R88). -/
def rpcPayload (c : Byte) (data : Bytes) : Bytes := c :: lengthByte data.length :: data

/-- A frame's bytes before its checksum (R80). -/
def frameBody (t : Byte) (payload : Bytes) : Bytes :=
  preamble ++ [version, t, lengthByte payload.length] ++ payload

/-- `MakeFrame(T, payload)` (R150): the frame with the checksum of R83. -/
def makeFrame (t : Byte) (payload : Bytes) : Bytes :=
  frameBody t payload ++ [sum8 (frameBody t payload)]

/-! ## The opcode table (R96) -/

/-- A row of the opcode table that has a bit pattern: bytes in wire order. -/
structure Row where
  mnemonic : String
  pattern : Bytes
  mask : Bytes
deriving DecidableEq, Repr

/-- The FRAME rows, in the table's priority order. -/
def frameRows : List Row :=
  [ ⟨"CURRENT_STATE", preamble ++ [0x01#8, 0x01#8], List.replicate 8 0xFF#8⟩,
    ⟨"ERROR_STATE", preamble ++ [0x01#8, 0x02#8], List.replicate 8 0xFF#8⟩,
    ⟨"RPC_COMMAND", preamble ++ [0x01#8, 0x03#8], List.replicate 8 0xFF#8⟩,
    ⟨"RPC_RESPONSE", preamble ++ [0x01#8, 0x04#8], List.replicate 8 0xFF#8⟩,
    ⟨"FRAME_RESERVED_TYPE", preamble ++ [0x01#8, 0x00#8], List.replicate 7 0xFF#8 ++ [0x00#8]⟩ ]

/-- The RPC rows that have a pattern, in the table's priority order. -/
def rpcRows : List Row :=
  [ ⟨"WifiSettings", [0x01#8], [0xFF#8]⟩,
    ⟨"GetCurrentState", [0x02#8], [0xFF#8]⟩,
    ⟨"GetDeviceInfo", [0x03#8], [0xFF#8]⟩,
    ⟨"GetWifiNetworks", [0x04#8], [0xFF#8]⟩,
    ⟨"RPC_RESERVED_COMMAND", [0x00#8], [0x00#8]⟩ ]

/-- `(x AND mask) = match` over the pattern's bytes (R96). -/
def patternMatches : Bytes → Bytes → Bytes → Bool
  | x :: xs, m :: ms, p :: ps => (x &&& m = p) && patternMatches xs ms ps
  | _, [], [] => true
  | _, _, _ => false

/-- The first row that matches applies (R96). -/
def selectRow (rows : List Row) (x : Bytes) : Option String :=
  (rows.find? fun r => patternMatches x r.mask r.pattern).map Row.mnemonic

/-! ## Decoding a frame -/

/-- Why bytes are no instruction of a format. -/
inductive DecodeError where
  /-- Bytes 0 to 5 are not the preamble (R111). -/
  | badPreamble
  /-- Byte 6 is not the version (R112). -/
  | badVersion
  /-- The stream ends before the frame does (R82, R95). -/
  | truncated
  /-- The checksum byte is not the sum of the bytes before it (R83). -/
  | badChecksum
  /-- The rows of this format have no bit pattern (R96). -/
  | noPattern
deriving DecidableEq, Repr

/-- The FRAME row that a type byte selects (R84, R85). -/
def frameInstr (t : Byte) (payload : Bytes) : Instr :=
  if t = 0x01#8 then .currentState payload
  else if t = 0x02#8 then .errorState payload
  else if t = 0x03#8 then .rpcCommand payload
  else if t = 0x04#8 then .rpcResponse payload
  else .frameReservedType t payload

/-- Decodes the frame at the front of a byte stream, and gives the bytes after it (R80, R83, R95). -/
def decodeFrame (bs : Bytes) : Except DecodeError (Instr × Bytes) :=
  if (bs.take 6 != preamble.take bs.length) then .error .badPreamble
  else
    match bs.drop 6 with
    | [] => .error .truncated
    | v :: r =>
      if v ≠ version then .error .badVersion
      else
        match r with
        | t :: l :: body =>
          match body.drop l.toNat with
          | [] => .error .truncated
          | ck :: rest =>
            if ck = sum8 (bs.take (9 + l.toNat)) then .ok (frameInstr t (body.take l.toNat), rest)
            else .error .badChecksum
        | _ => .error .truncated

/-! ## Decoding an RPC payload -/

/-- A length-prefixed field at the front of the data, and the bytes after it (R91, R135, R136). -/
def parseField : Bytes → Option (Bytes × Bytes)
  | [] => none
  | n :: r => if n.toNat ≤ r.length then some (r.take n.toNat, r.drop n.toNat) else none

/-- The RPC row of a payload whose data length byte is right (R89, R90, R134 to R138). -/
def rpcInstr (p : Bytes) (c : Byte) (a : Bytes) : Instr :=
  if c = 0x01#8 then
    match parseField a with
    | none => .rpcMalformed p
    | some (ssid, r) =>
      match parseField r with
      | none => .rpcMalformed p
      | some (pw, tr) => .wifiSettings ssid pw tr
  else if c = 0x02#8 then .getCurrentState a
  else if c = 0x03#8 then .getDeviceInfo a
  else if c = 0x04#8 then .getWifiNetworks a
  else .rpcReservedCommand c a

/-- The RPC instruction that a payload is: total, since every payload that is nothing else is `RPC_MALFORMED` (R132). -/
def decodeRpc (p : Bytes) : Instr :=
  match p with
  | c :: d :: a => if d.toNat = a.length then rpcInstr p c a else .rpcMalformed p
  | _ => .rpcMalformed p

/-! ## Decoding a byte in a step class -/

/-- The STEP row that handles byte `b` at position `pos`, given the length byte `l` of the candidate frame, by the
`selected_by` column and in the table's priority order (R96, R111 to R116). -/
def decodeStep (pos : Nat) (l b : Byte) : Option Instr :=
  if pos ≤ 5 then some (.pPreamble b)
  else if pos = 6 then some (.pVersion b)
  else if pos = 7 then some (.pType b)
  else if pos = 8 then some (.pLength b)
  else if pos ≤ 8 + l.toNat then some (.pPayload b)
  else if pos = 9 + l.toNat then some (.pChecksum b)
  else none

/-- The path that `P_CHECKSUM` takes (R116 to R118). -/
def decodeChecksumPath (csum b : Byte) : Instr :=
  if b = csum then .pChecksumMatch b else .pChecksumMismatch b

/-! ## The decoder by format, and the encoder -/

/-- Decodes the bytes of a format. FRAME: the frame at the front of the stream. RPC: the whole payload. STEP rows are
selected by `pos` and OP rows have no pattern (R96). -/
def decodeWords (f : Format) (bs : Bytes) : Except DecodeError (Instr × Bytes) :=
  match f with
  | .frame => decodeFrame bs
  | .rpc => .ok (decodeRpc bs, [])
  | .step | .op => .error .noPattern

/-- The bytes of an instruction in its format: the frame (R80), the payload (R88), the received byte of a step class.
A procedure, a tick and a reset have none (R96). -/
def encode : Instr → Option Bytes
  | .currentState p => some (makeFrame 0x01#8 p)
  | .errorState p => some (makeFrame 0x02#8 p)
  | .rpcCommand p => some (makeFrame 0x03#8 p)
  | .rpcResponse p => some (makeFrame 0x04#8 p)
  | .frameReservedType t p => some (makeFrame t p)
  | .wifiSettings ssid pw tr => some (rpcPayload 0x01#8 (field ssid ++ field pw ++ tr))
  | .getCurrentState d => some (rpcPayload 0x02#8 d)
  | .getDeviceInfo d => some (rpcPayload 0x03#8 d)
  | .getWifiNetworks d => some (rpcPayload 0x04#8 d)
  | .rpcReservedCommand c d => some (rpcPayload c d)
  | .rpcMalformed p => some p
  | .pPreamble b | .pVersion b | .pType b | .pLength b | .pPayload b | .pChecksum b
  | .pChecksumMismatch b | .pChecksumMatch b | .rxByte b => some [b]
  | .tick | .reset | .decode _ _ | .buildRpcResponse _ _ _ | .makeFrame _ _ | .emitState _ | .emitError _
  | .emitRpcResponse _ _ | .emit _ | .setState _ | .setError _ | .dispatch _ | .dispatchUnknown _
  | .sendDeviceUrl _ | .tryConnect _ _ | .cmCycleStart | .cmSuccess | .cmTimeout | .cmExhaustion | .cmGiveUp
  | .cmEdge => none

/-! ## The words of the opcode table -/

/-- The low `n` bytes of `w`, least significant first: a word's bytes in wire order. -/
def wordBytes : Nat → Nat → Bytes
  | 0, _ => []
  | n + 1, w => BitVec.ofNat 8 w :: wordBytes n (w / 256)

/-- The payload of an RPC row whose operand bytes are zero: two empty fields for `WifiSettings`, no data otherwise. -/
def rowPayload (c : Byte) : Bytes :=
  if c = 0x01#8 then rpcPayload c (field [] ++ field []) else rpcPayload c []

/-- The stream bytes of a table word (log entry 12): an 8-bit word is a command byte, in an `RPC_COMMAND` frame; a word
of 64 bits or more is a frame from its first byte on, its missing payload bytes zero. The bytes that are functions of
the others (the length bytes and the checksum, R81, R83, R88) follow from them. Other widths are no row's. -/
def tableWordStream (nbits w : Nat) : Option Bytes :=
  if nbits = 8 then some (makeFrame 0x03#8 (rowPayload (BitVec.ofNat 8 w)))
  else if 64 ≤ nbits then
    let bs := wordBytes (nbits / 8) w
    let l := bs.getD 8 0x00#8
    let payload := (bs.drop 9 ++ List.replicate 255 0x00#8).take l.toNat
    let body := bs.take 8 ++ [l] ++ payload
    some (body ++ [sum8 body])
  else none

/-- The instruction this decoder reads from a word of the opcode table, numbered as the table numbers its bits. -/
def decodeTableWord (nbits w : Nat) : Option Instr :=
  match tableWordStream nbits w with
  | none => none
  | some bs =>
    match decodeFrame bs with
    | .ok (.rpcCommand p, _) => if nbits = 8 then some (decodeRpc p) else some (.rpcCommand p)
    | .ok (i, _) => some i
    | .error _ => none

end Sys2Proof
end

