-- ==== Sys2Proof/Machine/State.lean ====
section
/-! DEFINITION. The state of the engine: its registers, its configuration, the observable logs, the pending events with
their environment answers, the reasons a step can stop, and the state after reset. -/

namespace Sys2Proof.Machine

/-- A memory: (address, byte) cells in one canonical form (Ops.lean): addresses strictly rising, no byte 00, which is
what an unlisted address reads as (log entry 5). -/
abbrev Memory := List Host.Cell

/-- The sub-state of the Connection Manager (R31). -/
inductive CmPhase where
  | idle
  | joining
deriving DecidableEq, Repr

/-- A network of a `Scan()` answer: `(ssid, signalStrength, isOpen)` (R8, R175). -/
structure ScanEntry where
  ssid : Bytes
  rssi : Rssi
  isOpen : Bool
deriving DecidableEq, Repr

/-- The content that the event `Reset` leaves in the registers whose reset value is unspecified: an arbitrary input
(R250, U17; log entry 4). -/
structure ResetContent where
  /-- The bytes of `buf`, from address 0 on; addresses past the list hold 00. -/
  buf : Bytes
  credSsid : Bytes
  credPassword : Bytes
  attemptDeadline : Time
deriving DecidableEq, Repr

/-- The environment's answers to the queries of one step, each a free input of the step (R8; log entry 2). A step puts
each query at most once, but for `Now()`, whose value is the same throughout a step (R45). -/
structure Env where
  /-- `Now()`. -/
  now : Time
  /-- `NetConnected()`. -/
  netConnected : Bool
  /-- `TryConnect(ssid, password)`. -/
  tryConnect : Bool
  /-- `Scan()`. -/
  scan : List ScanEntry
  /-- `DeviceUrl()`. -/
  deviceUrl : Bytes
  /-- `StorageSave(ssid, password)`; ignored by the block (R43). -/
  saveOk : Bool
  /-- `StorageLoad()`. -/
  storageLoad : Option (Bytes × Bytes)
  /-- What a `Reset` leaves in unspecified registers. -/
  resetContent : ResetContent
deriving DecidableEq, Repr

/-- The external events (R7). -/
inductive Event where
  | reset
  | rxByte (b : Byte)
  | tick
deriving DecidableEq, Repr

/-- One pending input: an event with the environment's answers for its step, or the configuration that the owning
application writes before the first event after a reset (R253; log entry 7). -/
inductive Input where
  | event (e : Event) (env : Env)
  | configure (c : Config)
deriving DecidableEq, Repr

/-- An observer notification (R44). `code` is a wire error code or one of the two observer-only codes. -/
inductive ObsEvent where
  | connected (ssid password : Bytes)
  | error (code : Nat)
  | disconnected
deriving DecidableEq, Repr

/-- A request to the network capability that the log `NET` records (R42). -/
inductive NetRequest where
  | tryConnect (ssid password : Bytes)
  | beginConnect (ssid password : Bytes)
deriving DecidableEq, Repr

/-- A storage operation that the log `STO` records (R43). -/
inductive StoOp where
  | save (ssid password : Bytes)
  | load
deriving DecidableEq, Repr

/-- One output, in the order in which the step made it (R69; log entry 10). -/
inductive Output where
  /-- A frame of the log `TX` (R41). -/
  | tx (frame : Bytes)
  /-- A notification of the log `OBS` (R44). -/
  | obs (e : ObsEvent)
  /-- The delivery of a notification to one subscriber (R39, R44). -/
  | deliver (h : Handle) (e : ObsEvent)
  /-- A request of the log `NET` (R42). -/
  | net (r : NetRequest)
  /-- An operation of the log `STO` (R43). -/
  | sto (o : StoOp)
deriving DecidableEq, Repr

/-- The value that a value-returning procedure, run as an instruction of its own, gave (log entry 9). -/
inductive Answer where
  | none
  | command (c : Command)
  | bytes (bs : Bytes)
  | refused
  | flag (b : Bool)
deriving DecidableEq, Repr

/-- The machine. -/
structure State where
  /-- `pos` (R20). -/
  pos : Pos
  /-- `buf[0..263]` (R21). -/
  buf : Memory
  /-- `csum` (R22). -/
  csum : Byte
  /-- `inact_deadline` (R23). -/
  inactDeadline : Time
  /-- `inact_valid` (R23). -/
  inactValid : Bool
  /-- `prov_state` (R24). -/
  provState : Byte
  /-- `err_state` (R25). -/
  errState : Byte
  /-- `cred_valid` (R26). -/
  credValid : Bool
  /-- `cred_ssid` (R26). -/
  credSsid : Bytes
  /-- `cred_password` (R26). -/
  credPassword : Bytes
  /-- `retries_done` (R27). -/
  retriesDone : Byte
  /-- `last_connected` (R28). -/
  lastConnected : Bool
  /-- `cred_available` (R29). -/
  credAvailable : Bool
  /-- `failed` (R30). -/
  failed : Bool
  /-- `cm_phase` (R31). -/
  cmPhase : CmPhase
  /-- `attempt_deadline` (R32). -/
  attemptDeadline : Time
  /-- `fault_encode` (R33). -/
  faultEncode : Bool
  /-- The configuration registers (R34 to R39). -/
  cfg : Config
  /-- The outputs since reset, oldest first: the four logs of R8 and the deliveries of R44. -/
  out : List Output
  /-- The MODEL's own: the pending inputs, next first (log entry 1). -/
  input : List Input
  /-- The MODEL's own: the environment's answers for the running step (log entry 2). -/
  env : Env
  /-- The MODEL's own: an `RxByte` or a `Tick` was taken since reset (R253, R254; log entry 7). -/
  started : Bool
  /-- The MODEL's own: the last answer of a value-returning procedure run as an instruction (log entry 9). -/
  answer : Answer
deriving DecidableEq, Repr

/-- Why the machine stops. No run of events reaches one of these; no error of the spec stops the block (R231). -/
inductive Fault where
  /-- `MemRead` of a byte that the parser has not accepted into the candidate frame (R61). Raised by the parser's reads;
  safe: the model stops where the spec defines no value. -/
  | memReadOutside
  /-- `MemWrite` at an address that does not exist, 264 or above (R61, R67). Raised by the parser's store; safe: the
  model stops where the spec says there is no byte. -/
  | memWriteOutside
  /-- A step class, or a part of a tick, run as an instruction in a state in which the opcode table does not select it
  (the `selected_by` and `signature` columns; R96, R126, R192; log entry 8). Raised by the STEP meanings and the
  Connection Manager's meanings; safe: the model stops where the spec gives the row no effect. -/
  | notSelected
deriving DecidableEq, Repr

/-- Why the model gives an input no meaning. -/
inductive Refusal where
  /-- An instruction without a meaning yet; raised by no arm of this model; safe. -/
  | notModelled (mnemonic : String)
  /-- A configuration written after the first event, which R254 forbids. Raised by the step on `Input.configure`; safe:
  the model stops where the environment breaks a premise (U25). -/
  | configurationAfterStart
deriving DecidableEq, Repr

/-- The answers that stand in `State.env` before the first event is taken (log entry 2). -/
def Env.placeholder : Env where
  now := 0#32
  netConnected := false
  tryConnect := false
  scan := []
  deviceUrl := []
  saveOk := false
  storageLoad := none
  resetContent := { buf := [], credSsid := [], credPassword := [], attemptDeadline := 0#32 }

/-- The configuration in `State.reset` (log entry 3): the observer lists and `OBS_ON_WIRE_ERROR` are the spec's (R39,
R222), the rest is the model's choice. -/
def resetConfig : Config where
  chipFamily := []
  fwName := []
  fwVersion := []
  devName := []
  maxRetries := 3#8
  tInact := 1000#32
  tAttempt := 10000#32
  credAvailAtReset := false
  obsOnWireError := false
  errWifiDisconnected := 5
  errConnectGiveup := 6
  connectedObservers := []
  errorObservers := []
  disconnectedObservers := []

/-- The machine right after reset (R250), with nothing pending. -/
def State.reset : State where
  pos := 0#9
  buf := []
  csum := 0x00#8
  inactDeadline := 0#32
  inactValid := false
  provState := 0x00#8
  errState := 0x00#8
  credValid := false
  credSsid := []
  credPassword := []
  retriesDone := 0#8
  lastConnected := false
  credAvailable := resetConfig.credAvailAtReset
  failed := false
  cmPhase := .idle
  attemptDeadline := 0#32
  faultEncode := false
  cfg := resetConfig
  out := []
  input := []
  env := Env.placeholder
  started := false
  answer := .none

end Sys2Proof.Machine
end

