-- ==== Sys2Proof/Machine/Operands.lean ====
section
/-! DEFINITION. Operand forms: time arithmetic, the text forms of a scanned network, and what a credential register
takes. -/

namespace Sys2Proof.Machine

/-! ## Time (00_scope.md section 6, R240) -/

/-- `a +T b`: addition modulo 2^32. -/
def timeAdd (a b : Time) : Time := a + b

/-- `a -T b`: subtraction modulo 2^32. -/
def timeSub (a b : Time) : Time := a - b

/-- `reached(now, d)`: time `now` is at or after deadline `d`. -/
def reached (now d : Time) : Bool := decide ((timeSub now d).toNat < 2 ^ 31)

/-! ## Text (R182) -/

/-- The ASCII code of a decimal digit. -/
def digit (n : Nat) : Byte := BitVec.ofNat 8 (48 + n)

/-- The decimal digits of `n` in front of `acc`; `fuel` bounds their number. -/
def decDigits : Nat → Nat → Bytes → Bytes
  | 0, _, acc => acc
  | fuel + 1, n, acc =>
    if n < 10 then digit n :: acc else decDigits fuel (n / 10) (digit (n % 10) :: acc)

/-- `dec(n)`: the decimal text of an integer, a leading `-` for a negative one, no leading zeros (00_scope.md section 6). -/
def dec (n : Int) : Bytes :=
  if n < 0 then 0x2D#8 :: decDigits (n.natAbs + 1) n.natAbs [] else decDigits (n.natAbs + 1) n.natAbs []

/-- The text of a signal strength: the sign-extended 8-bit integer (R182). -/
def rssiText (r : Rssi) : Bytes := dec r.toInt

/-- `AuthText(open)`: "NO" for an open network, "YES" for one that needs authentication (R182). -/
def authText (isOpen : Bool) : Bytes := if isOpen then [0x4E#8, 0x4F#8] else [0x59#8, 0x45#8, 0x53#8]

/-- The three fields of a network's response (R175). -/
def networkFields (e : ScanEntry) : List Bytes := [e.ssid, rssiText e.rssi, authText e.isOpen]

/-! ## Credential registers (R26) -/

/-- What a credential register holds after a string is written to it: the string, where it fits into 255 bytes; a free
value of at most 255 bytes otherwise (log entry 6). -/
def fitText (s : Bytes) : Bytes := if s.length ≤ 255 then s else (Config.overlongText s).take 255

end Sys2Proof.Machine
end

