-- ==== Sys2Proof/Machine/Flags.lean ====
section
/-! DEFINITION. The one-bit flags and the status the block computes: the inactivity flag, the fault flag, the reset of
the parser's accumulator, the status port. -/

namespace Sys2Proof.Machine

/-- `inact_deadline <- Now() +T T_INACT; inact_valid <- 1` (R23, R118, R238). -/
def State.refreshDeadline (s : State) : State :=
  { s with inactDeadline := timeAdd s.env.now s.cfg.tInact, inactValid := true }

/-- `fault(fault_encode)`: sets the sticky fault flag; the step goes on (R33, R230). -/
def State.raiseEncodeFault (s : State) : State := { s with faultEncode := true }

/-- `pos <- 0; csum <- 0`: the parser starts again at the preamble (R110, R119, R224). -/
def State.resetParser (s : State) : State := { s with pos := 0#9, csum := 0x00#8 }

/-- The status port (R46): the three registers that are visible outside without a frame exchange. -/
structure StatusPort where
  inactValid : Bool
  inactDeadline : Time
  failed : Bool
deriving DecidableEq, Repr

/-- What the block drives on the status port (R46). -/
def State.statusPort (s : State) : StatusPort :=
  { inactValid := s.inactValid, inactDeadline := s.inactDeadline, failed := s.failed }

/-- What the owning application may compute from the status port (R46); the block does not. -/
def StatusPort.sessionActive (p : StatusPort) (now : Time) : Bool :=
  p.inactValid && !reached now p.inactDeadline

end Sys2Proof.Machine
end

