-- ==== Sys2Proof/Machine/Ops.lean ====
section
/-! DEFINITION. The named operations over the frame buffer, the logs and the registers that the meanings share: memory,
outputs, the emitter, raising an error, the codec's encoder, the four commands and the parts of a tick. -/

namespace Sys2Proof.Machine

/-! ## The frame buffer (R60, R61, R67) -/

/-- `BUF_SIZE` (R6). -/
def bufSize : Nat := 264

/-- The byte at an address: the listed one, and 00 where none is listed (log entry 5). -/
def Memory.read : Memory → Nat → Byte
  | [], _ => 0x00#8
  | (k, v) :: r, a => if k = a then v else Memory.read r a

/-- Stores a byte and keeps the canonical form: the byte 00 removes the cell. -/
def Memory.write : Memory → Nat → Byte → Memory
  | [], a, b => if b = 0x00#8 then [] else [(a, b)]
  | (k, v) :: r, a, b =>
    if k < a then (k, v) :: Memory.write r a b
    else
      let rest := if k = a then r else (k, v) :: r
      if b = 0x00#8 then rest else (a, b) :: rest

/-- Stores consecutive bytes from an address on. -/
def Memory.writeList : Memory → Nat → Bytes → Memory
  | m, _, [] => m
  | m, a, b :: r => Memory.writeList (m.write a b) (a + 1) r

/-- The `n` bytes from address `a` on. -/
def Memory.readList (m : Memory) (a : Nat) : Nat → Bytes
  | 0 => []
  | n + 1 => m.read a :: Memory.readList m (a + 1) n

/-- The canonical form, with every address at least `low`: addresses strictly rising and below 264, no byte 00. -/
def Memory.wfFrom : Nat → Memory → Bool
  | _, [] => true
  | low, (k, v) :: r => decide (low ≤ k) && decide (k < bufSize) && (v != 0x00#8) && Memory.wfFrom (k + 1) r

/-- The canonical form of the frame buffer. -/
def Memory.wf (m : Memory) : Bool := Memory.wfFrom 0 m

/-- `MemRead(addr, n)`: defined only when `addr + n <= pos` (R61). -/
def State.memRead (s : State) (a n : Nat) : Option Bytes :=
  if a + n ≤ s.pos.toNat then some (s.buf.readList a n) else none

/-- `MemRead(addr, 1)`, the one byte (R61, R126). -/
def State.memReadByte (s : State) (a : Nat) : Option Byte :=
  if a + 1 ≤ s.pos.toNat then some (s.buf.read a) else none

/-- The bytes `buf[0 .. pos-1]` of the candidate frame (R21). -/
def State.candidate (s : State) : Bytes := s.buf.readList 0 s.pos.toNat

/-- The length byte `L` of the candidate frame, at position 8 (R67). -/
def State.frameLength (s : State) : Nat := (s.buf.read 8).toNat

/-- The parser accepts byte `b`: `buf[pos] <- b; csum <- csum +8 b; pos <- pos + 1` (R110). -/
def State.accept (s : State) (b : Byte) : Host.Outcome State Fault Refusal :=
  if s.pos.toNat < bufSize then
    .next { s with buf := s.buf.write s.pos.toNat b, csum := s.csum + b, pos := s.pos + 1#9 }
  else .fault .memWriteOutside

/-! ## The logs (R8, R41 to R44, R69) -/

/-- Appends one output. -/
def State.output (s : State) (o : Output) : State := { s with out := s.out ++ [o] }

/-- `Emit(f)`: one atomic write of a whole frame (R154). -/
def State.emitFrame (s : State) (f : Bytes) : State := s.output (.tx f)

/-- The subscribers of a notification, in registration order (R39, R44). -/
def Config.subscribers (c : Config) : ObsEvent → List Handle
  | .connected _ _ => c.connectedObservers
  | .error _ => c.errorObservers
  | .disconnected => c.disconnectedObservers

/-- `Notify(e)`: the notification, then its delivery to every subscriber in registration order (R44). -/
def State.notify (s : State) (e : ObsEvent) : State :=
  { s with out := s.out ++ .obs e :: (Config.subscribers s.cfg e).map fun h => .deliver h e }

/-- Records a network request (R42). -/
def State.netRequest (s : State) (r : NetRequest) : State := s.output (.net r)

/-- Records a storage operation (R43). -/
def State.storage (s : State) (o : StoOp) : State := s.output (.sto o)

/-- The frame of an output that is one. -/
def Output.frame? : Output → Option Bytes
  | .tx f => some f
  | _ => none

/-- The notification of an output that is one. -/
def Output.obs? : Output → Option ObsEvent
  | .obs e => some e
  | _ => none

/-- The network request of an output that is one. -/
def Output.net? : Output → Option NetRequest
  | .net r => some r
  | _ => none

/-- The storage operation of an output that is one. -/
def Output.sto? : Output → Option StoOp
  | .sto o => some o
  | _ => none

/-- The delivery of an output that is one. -/
def Output.delivery? : Output → Option (Handle × ObsEvent)
  | .deliver h e => some (h, e)
  | _ => none

/-- The log `TX` (R41). -/
def State.tx (s : State) : List Bytes := s.out.filterMap Output.frame?

/-- The log `OBS` (R44). -/
def State.obs (s : State) : List ObsEvent := s.out.filterMap Output.obs?

/-- The log `NET` (R42). -/
def State.net (s : State) : List NetRequest := s.out.filterMap Output.net?

/-- The log `STO` (R43). -/
def State.sto (s : State) : List StoOp := s.out.filterMap Output.sto?

/-- The deliveries to subscribers (R39, R44). -/
def State.delivered (s : State) : List (Handle × ObsEvent) := s.out.filterMap Output.delivery?

/-! ## The emitter's procedures and raising an error -/

/-- `EmitState(s)` (R151). -/
def State.emitStateFrame (s : State) (v : Byte) : State := s.emitFrame (makeFrame 0x01#8 [v])

/-- `EmitError(e)` (R152). -/
def State.emitErrorFrame (s : State) (e : Byte) : State := s.emitFrame (makeFrame 0x02#8 [e])

/-- TAKING AN EXCEPTION: `SetError(e)`, the raising procedure of every protocol error (R222, and `raise E(code)` of
00_scope.md section 6). It saves nothing and transfers no control; there is no return (R233, R234). -/
def State.raiseError (s : State) (e : Byte) : State :=
  let s1 := ({ s with errState := e }).emitErrorFrame e
  if s1.cfg.obsOnWireError ∧ e ≠ 0x00#8 then s1.notify (.error e.toNat) else s1

/-- `SetState(s)`: writes `prov_state` first, then emits the state frame (R166). -/
def State.enterState (s : State) (v : Byte) : State := ({ s with provState := v }).emitStateFrame v

/-- `BuildRpcResponse(tag, fields, with_checksum)`, `none` where it refuses (R140 to R143). -/
def buildResponse (tag : Byte) (fields : List Bytes) (withChecksum : Bool) : Option Bytes :=
  if fields.any fun f => decide (255 < f.length) then none
  else if 255 < (fieldsBody fields).length then none
  else
    let r := rpcPayload tag (fieldsBody fields)
    some (if withChecksum then r ++ [sum8 r] else r)

/-- `EmitRpcResponse(tag, fields)` (R153, R155). -/
def State.emitResponse (s : State) (tag : Byte) (fields : List Bytes) : State :=
  match buildResponse tag fields false with
  | none => s.raiseEncodeFault
  | some r => if 255 < r.length then s.raiseEncodeFault else s.emitFrame (makeFrame 0x04#8 r)

/-- `SendDeviceUrl(tag)` (R177). -/
def State.sendUrl (s : State) (tag : Byte) : State := s.emitResponse tag [s.env.deviceUrl]

/-! ## The codec's decoder -/

/-- Byte `i` of a byte list (00_scope.md section 6). -/
def byteAt (p : Bytes) (i : Nat) : Byte := p.getD i 0x00#8

/-- `s[a..b]`: the sub-list from index `a` to index `b` inclusive, empty when `b < a` (00_scope.md section 6). -/
def slice (s : Bytes) (a b : Nat) : Bytes := (s.take (b + 1)).drop a

/-- `Decode(p, check)` (R131 to R139). The lengths are compared in unbounded integers (R132). -/
def decodeCommand (p : Bytes) (check : Bool) : Command :=
  let n := p.length
  let k := if check then 1 else 0
  if n < 2 + k then .unknown
  else if (byteAt p 1).toNat ≠ n - 2 - k then .unknown
  else if check ∧ sum8 (p.take (n - 1)) ≠ byteAt p (n - 1) then .badChecksum
  else
    let c := byteAt p 0
    let d := (byteAt p 1).toNat
    let a := slice p 2 (1 + d)
    if c = 0x02#8 then .getCurrentState
    else if c = 0x03#8 then .getDeviceInfo
    else if c = 0x04#8 then .getWifiNetworks
    else if c ≠ 0x01#8 then .unknown
    else if d < 1 then .unknown
    else
      let sl := (byteAt a 0).toNat
      if d < 1 + sl + 1 then .unknown
      else
        let pl := (byteAt a (1 + sl)).toNat
        if d < 1 + sl + 1 + pl then .unknown
        else .wifiSettings (slice a 1 sl) (slice a (2 + sl) (1 + sl + pl))

/-! ## The RPC state machine's rules -/

/-- The credential-set event: the credential registers and `cred_available` (R26, R172, R193, R200). -/
def State.setCredentials (s : State) (ssid pw : Bytes) : State :=
  { s with credSsid := fitText ssid, credPassword := fitText pw, credValid := true, credAvailable := true }

/-- `GetCurrentState` (R169). -/
def State.answerCurrentState (s : State) : State :=
  if s.env.netConnected then (s.enterState 0x04#8).sendUrl 0x02#8 else s.enterState 0x02#8

/-- The success path of `WifiSettings`, in the order of the rule (R172); the answer of `StorageSave` is ignored (R43). -/
def State.wifiSuccess (s : State) (ssid pw : Bytes) : State :=
  let s1 := s.enterState 0x04#8
  let s2 := s1.storage (.save ssid pw)
  let s3 := s2.setCredentials ssid pw
  let s4 := s3.raiseError 0x00#8
  let s5 := s4.sendUrl 0x01#8
  s5.notify (.connected ssid pw)

/-- The failure path of `WifiSettings` (R173). -/
def State.wifiFailure (s : State) : State := (s.enterState 0x00#8).raiseError 0x03#8

/-- `WifiSettings` (R170, R171): the `Provisioning` state frame stands in `TX` before the attempt. -/
def State.answerWifiSettings (s : State) (ssid pw : Bytes) : State :=
  if ssid = [] then s.raiseError 0x01#8
  else
    let s1 := (s.enterState 0x03#8).netRequest (.tryConnect ssid pw)
    if s1.env.tryConnect then s1.wifiSuccess ssid pw else s1.wifiFailure

/-- `GetDeviceInfo` (R174). -/
def State.answerDeviceInfo (s : State) : State :=
  s.emitResponse 0x03#8 [s.cfg.fwName, s.cfg.fwVersion, s.cfg.chipFamily, s.cfg.devName]

/-- The responses for a list of networks, one each, in list order (R175). -/
def State.emitNetworks (s : State) : List ScanEntry → State
  | [] => s
  | e :: r => (s.emitResponse 0x04#8 (networkFields e)).emitNetworks r

/-- `GetWifiNetworks` (R175): the networks, then the terminator. -/
def State.answerWifiNetworks (s : State) : State := (s.emitNetworks s.env.scan).emitResponse 0x04#8 []

/-- An undecodable command (R176, R226). -/
def State.answerUndecodable (s : State) : State := s.raiseError 0x02#8

/-- `Dispatch(cmd)` (R168): every command in every state. -/
def State.dispatchCommand (s : State) : Command → State
  | .getCurrentState => s.answerCurrentState
  | .wifiSettings ssid pw => s.answerWifiSettings ssid pw
  | .getDeviceInfo => s.answerDeviceInfo
  | .getWifiNetworks => s.answerWifiNetworks
  | .unknown => s.answerUndecodable
  | .badChecksum => s.answerUndecodable

/-! ## The Connection Manager's rules -/

/-- The credentials that the edge detection notifies: the cached ones, or two empty strings (R199). -/
def State.cachedCredentials (s : State) : Bytes × Bytes :=
  if s.credValid then (s.credSsid, s.credPassword) else ([], [])

/-- The load of a cycle's start: only when no credentials are cached (R193). -/
def State.loadCredentials (s : State) : State :=
  if s.credValid then s
  else
    let s1 := s.storage .load
    match s1.env.storageLoad with
    | some (ssid, pw) => s1.setCredentials ssid pw
    | none => s1

/-- The start of a connection cycle (R193). -/
def State.startCycle (s : State) : State :=
  let s1 := s.loadCredentials
  if s1.credValid then
    let s2 := s1.netRequest (.beginConnect s1.credSsid s1.credPassword)
    { s2 with cmPhase := .joining, attemptDeadline := timeAdd s2.env.now s2.cfg.tAttempt }
  else s1

/-- The success of a cycle (R195). -/
def State.cycleSuccess (s : State) : State :=
  let s1 := ({ s with retriesDone := 0#8 }).notify (.connected s.credSsid s.credPassword)
  { s1 with lastConnected := true, cmPhase := .idle }

/-- Retry exhaustion (R197, R228). -/
def State.exhaust (s : State) : State := ({ s with failed := true }).notify (.error 3)

/-- `retries_done + 1` as the 8-bit register holds it (R27, R196): a free value past 255 (log entry 20). -/
def State.countedRetry (s : State) : Byte :=
  if s.retriesDone.toNat < 255 then s.retriesDone + 1#8 else Config.retriesPastEnd s.out.length

/-- The timeout of an attempt, and exhaustion when the counter reaches `MAX_RETRIES` (R196). -/
def State.cycleTimeout (s : State) : State :=
  let s1 := { s with retriesDone := s.countedRetry, cmPhase := .idle }
  if s1.retriesDone = s1.cfg.maxRetries then s1.exhaust else s1

/-- The give-up report (R198, R229). -/
def State.giveUp (s : State) : State := s.notify (.error s.cfg.errConnectGiveup)

/-- The edge detection, given that connectivity differs from the last observed value (R199). -/
def State.edge (s : State) (c : Bool) : State :=
  if c then
    let s1 := s.notify (.connected s.cachedCredentials.1 s.cachedCredentials.2)
    { s1 with retriesDone := 0#8, failed := false, lastConnected := c }
  else
    let s1 := s.notify .disconnected
    { s1 with lastConnected := c }

/-- The attempt policy of a tick (R192, R203). -/
def State.tickPolicy (s : State) (c : Bool) (now : Time) : State :=
  if s.cmPhase = .joining then
    if c then s.cycleSuccess
    else if reached now s.attemptDeadline then s.cycleTimeout
    else s
  else if !c && s.credAvailable && !s.failed then s.startCycle
  else if s.failed then s.giveUp
  else s

/-- The edge detection of a tick (R199, R203). -/
def State.tickEdge (s : State) (c : Bool) : State := if c ≠ s.lastConnected then s.edge c else s

/-! ## Reset -/

/-- The event `Reset` (R250 to R252): every register at its reset value, the logs empty, the observer lists empty (R39).
The unspecified registers take the arbitrary content that the input gives (log entry 4); the configuration stays for
the owner to write anew (R252); the pending inputs stay. -/
def State.resetAll (s : State) : State :=
  { State.reset with
    buf := Memory.writeList [] 0 (s.env.resetContent.buf.take bufSize)
    credSsid := fitText s.env.resetContent.credSsid
    credPassword := fitText s.env.resetContent.credPassword
    attemptDeadline := s.env.resetContent.attemptDeadline
    credAvailable := s.cfg.credAvailAtReset
    cfg := { s.cfg with connectedObservers := [], errorObservers := [], disconnectedObservers := [] }
    input := s.input
    env := s.env }

end Sys2Proof.Machine
end

