-- ==== Sys2Proof/Machine/Codec.lean ====
section
/-! DEFINITION. The Command Codec's two functions and the emitter's procedures as instructions of their own. -/

namespace Sys2Proof.Machine

/-- `Decode(p, check)`: writes no register (R139); the command is its answer. -/
def execDecode (p : Bytes) (check : Bool) (s : State) : Host.Outcome State Fault Refusal :=
  .next { s with answer := .command (decodeCommand p check) }

/-- `BuildRpcResponse(tag, fields, with_checksum)`: writes no register but `fault_encode` on refusal (R140 to R143). -/
def execBuildRpcResponse (tag : Byte) (fields : List Bytes) (withChecksum : Bool) (s : State) :
    Host.Outcome State Fault Refusal :=
  match buildResponse tag fields withChecksum with
  | some r => .next { s with answer := .bytes r }
  | none => .next { s.raiseEncodeFault with answer := .refused }

/-- `MakeFrame(T, payload)`: pure (R150); a payload of more than 255 bytes is refused and sets `fault_encode` (R33, R155;
log entry 16). -/
def execMakeFrame (t : Byte) (payload : Bytes) (s : State) : Host.Outcome State Fault Refusal :=
  if payload.length ≤ 255 then .next { s with answer := .bytes (makeFrame t payload) }
  else .next { s.raiseEncodeFault with answer := .refused }

/-- `EmitState(s)` (R151). -/
def execEmitState (v : Byte) (s : State) : Host.Outcome State Fault Refusal := .next (s.emitStateFrame v)

/-- `EmitError(e)` (R152). -/
def execEmitError (e : Byte) (s : State) : Host.Outcome State Fault Refusal := .next (s.emitErrorFrame e)

/-- `EmitRpcResponse(tag, fields)` (R153, R155). -/
def execEmitRpcResponse (tag : Byte) (fields : List Bytes) (s : State) : Host.Outcome State Fault Refusal :=
  .next (s.emitResponse tag fields)

/-- `Emit(f)` (R154). -/
def execEmit (f : Bytes) (s : State) : Host.Outcome State Fault Refusal := .next (s.emitFrame f)

end Sys2Proof.Machine
end

