-- ==== Sys2Proof/Machine/Frames.lean ====
section
/-! DEFINITION. The FRAME rows: what the completion of a checksum-valid frame does (R118, R121; log entry 11). -/

namespace Sys2Proof.Machine

/-- `CURRENT_STATE` received: refreshes the inactivity deadline, otherwise ignored (R121). -/
def execCurrentState (s : State) : Host.Outcome State Fault Refusal := .next s.refreshDeadline.resetParser

/-- `ERROR_STATE` received: refreshes the inactivity deadline, otherwise ignored (R121). -/
def execErrorState (s : State) : Host.Outcome State Fault Refusal := .next s.refreshDeadline.resetParser

/-- `RPC_COMMAND` received: the deadline, then the payload's command, then position 0 (R118). -/
def execRpcCommand (payload : Bytes) (s : State) : Host.Outcome State Fault Refusal :=
  .next (s.refreshDeadline.dispatchCommand (decodeCommand payload false)).resetParser

/-- `RPC_RESPONSE` received: refreshes the inactivity deadline, otherwise ignored (R121). -/
def execRpcResponse (s : State) : Host.Outcome State Fault Refusal := .next s.refreshDeadline.resetParser

/-- `FRAME_RESERVED_TYPE` received: refreshes the inactivity deadline, no error, otherwise ignored (R85, R121). -/
def execFrameReservedType (s : State) : Host.Outcome State Fault Refusal := .next s.refreshDeadline.resetParser

end Sys2Proof.Machine
end

