-- ==== Sys2Proof/Machine/Manager.lean ====
section
/-! DEFINITION. The Connection Manager: the event `Tick` (R203), its parts as the table names them, and `Reset`. -/

namespace Sys2Proof.Machine

/-- `CM_CycleStart`: a tick, IDLE, not connected, `cred_available`, not `failed` (R192, R193). -/
def execCmCycleStart (s : State) : Host.Outcome State Fault Refusal :=
  if s.cmPhase = .idle ∧ s.env.netConnected = false ∧ s.credAvailable = true ∧ s.failed = false then .next s.startCycle
  else .fault .notSelected

/-- `CM_Success`: a tick, JOINING, connected (R195). -/
def execCmSuccess (s : State) : Host.Outcome State Fault Refusal :=
  if s.cmPhase = .joining ∧ s.env.netConnected = true then .next s.cycleSuccess else .fault .notSelected

/-- `CM_Timeout`: a tick, JOINING, not connected, the deadline reached (R196). -/
def execCmTimeout (s : State) : Host.Outcome State Fault Refusal :=
  if s.cmPhase = .joining ∧ s.env.netConnected = false ∧ reached s.env.now s.attemptDeadline = true then
    .next s.cycleTimeout
  else .fault .notSelected

/-- `CM_Exhaustion`: `retries_done` has reached `MAX_RETRIES` after a timeout (R197). -/
def execCmExhaustion (s : State) : Host.Outcome State Fault Refusal :=
  if s.retriesDone = s.cfg.maxRetries then .next s.exhaust else .fault .notSelected

/-- `CM_GiveUp`: a tick, IDLE, `failed` (R198). -/
def execCmGiveUp (s : State) : Host.Outcome State Fault Refusal :=
  if s.cmPhase = .idle ∧ s.failed = true then .next s.giveUp else .fault .notSelected

/-- `CM_Edge`: a tick, connectivity differs from `last_connected` (R199). -/
def execCmEdge (s : State) : Host.Outcome State Fault Refusal :=
  if s.env.netConnected ≠ s.lastConnected then .next (s.edge s.env.netConnected) else .fault .notSelected

/-- The event `Tick` (R191, R203): one sample of connectivity and time, the policy, then the edge detection. -/
def execTick (s : State) : Host.Outcome State Fault Refusal :=
  let c := s.env.netConnected
  let now := s.env.now
  .next ((s.tickPolicy c now).tickEdge c)

/-- The event `Reset` (R250 to R252). -/
def execReset (s : State) : Host.Outcome State Fault Refusal := .next s.resetAll

end Sys2Proof.Machine
end

