-- ==== Sys2Proof/Machine/Parser.lean ====
section
/-! DEFINITION. The Frame Parser: the step classes (R111 to R118) and the whole step `RxByte` (R126). -/

namespace Sys2Proof.Machine

/-- The caller of `accept`: stores the byte and advances, or starts again at the preamble (R110). -/
def State.verdict (s : State) (ok : Bool) (b : Byte) : Host.Outcome State Fault Refusal :=
  if ok then s.accept b else .next s.resetParser

/-- Whether position 9+L is the current one, with L in the buffer (R116). -/
def State.atChecksum (s : State) : Bool := decide (s.pos.toNat = 9 + s.frameLength)

/-- The mismatch path (R117, R225): `InvalidRpc`, then position 0. -/
def State.checksumMismatch (s : State) : State := (s.raiseError 0x01#8).resetParser

/-- The match path for a frame of type `t` and its payload (R118). -/
def State.checksumMatch (s : State) (t : Byte) (payload : Bytes) : State :=
  let s1 := s.refreshDeadline
  let s2 := if t = 0x03#8 then s1.dispatchCommand (decodeCommand payload false) else s1
  s2.resetParser

/-- `P_PREAMBLE`, selected at positions 0 to 5 (R111). -/
def execPPreamble (b : Byte) (s : State) : Host.Outcome State Fault Refusal :=
  if s.pos.toNat ≤ 5 then s.verdict (b = preambleAt s.pos.toNat) b else .fault .notSelected

/-- `P_VERSION`, selected at position 6 (R112). -/
def execPVersion (b : Byte) (s : State) : Host.Outcome State Fault Refusal :=
  if s.pos.toNat = 6 then s.verdict (b = version) b else .fault .notSelected

/-- `P_TYPE`, selected at position 7 (R113). -/
def execPType (b : Byte) (s : State) : Host.Outcome State Fault Refusal :=
  if s.pos.toNat = 7 then s.verdict true b else .fault .notSelected

/-- `P_LENGTH`, selected at position 8 (R114). -/
def execPLength (b : Byte) (s : State) : Host.Outcome State Fault Refusal :=
  if s.pos.toNat = 8 then s.verdict true b else .fault .notSelected

/-- `P_PAYLOAD`, selected at positions 9 to 8+L (R115). -/
def execPPayload (b : Byte) (s : State) : Host.Outcome State Fault Refusal :=
  if 9 ≤ s.pos.toNat ∧ s.pos.toNat ≤ 8 + s.frameLength then s.verdict true b else .fault .notSelected

/-- `P_CHECKSUM`, selected at position 9+L (R116). -/
def execPChecksum (b : Byte) (s : State) : Host.Outcome State Fault Refusal :=
  if s.atChecksum then
    match s.memReadByte 7, s.memRead 9 s.frameLength with
    | some t, some payload => .next (if b ≠ s.csum then s.checksumMismatch else s.checksumMatch t payload)
    | _, _ => .fault .memReadOutside
  else .fault .notSelected

/-- `P_CHECKSUM_MISMATCH`, selected at position 9+L by a byte that differs from `csum` (R117). -/
def execPChecksumMismatch (b : Byte) (s : State) : Host.Outcome State Fault Refusal :=
  if s.atChecksum ∧ b ≠ s.csum then .next s.checksumMismatch else .fault .notSelected

/-- `P_CHECKSUM_MATCH`, selected at position 9+L by a byte equal to `csum` (R118). -/
def execPChecksumMatch (b : Byte) (s : State) : Host.Outcome State Fault Refusal :=
  if s.atChecksum ∧ b = s.csum then
    match s.memReadByte 7, s.memRead 9 s.frameLength with
    | some t, some payload => .next (s.checksumMatch t payload)
    | _, _ => .fault .memReadOutside
  else .fault .notSelected

/-- The event `RxByte(b)` (R126). -/
def execRxByte (b : Byte) (s : State) : Host.Outcome State Fault Refusal :=
  let p := s.pos.toNat
  if p ≤ 5 then s.verdict (b = preambleAt p) b
  else if p = 6 then s.verdict (b = version) b
  else if p ≤ 8 then s.verdict true b
  else
    match s.memReadByte 7, s.memReadByte 8 with
    | some t, some l =>
      if p ≤ 8 + l.toNat then s.verdict true b
      else if b ≠ s.csum then (s.raiseError 0x01#8).verdict false b
      else if t = 0x03#8 then
        match s.memRead 9 l.toNat with
        | some payload => (s.refreshDeadline.dispatchCommand (decodeCommand payload false)).verdict false b
        | none => .fault .memReadOutside
      else s.refreshDeadline.verdict false b
    | _, _ => .fault .memReadOutside

end Sys2Proof.Machine
end

