-- ==== Sys2Proof/Machine/Rpc.lean ====
section
/-! DEFINITION. The RPC rows and the procedures of the RPC state machine (44_rpc_state_machine.md, R222). -/

namespace Sys2Proof.Machine

/-- `WifiSettings` (R170 to R173); the bytes after the password are ignored (R137). -/
def execWifiSettings (ssid password : Bytes) (s : State) : Host.Outcome State Fault Refusal :=
  .next (s.answerWifiSettings ssid password)

/-- `GetCurrentState` (R169); its data is not looked at (R138). -/
def execGetCurrentState (s : State) : Host.Outcome State Fault Refusal := .next s.answerCurrentState

/-- `GetDeviceInfo` (R174); its data is not looked at (R138). -/
def execGetDeviceInfo (s : State) : Host.Outcome State Fault Refusal := .next s.answerDeviceInfo

/-- `GetWifiNetworks` (R175); its data is not looked at (R138). -/
def execGetWifiNetworks (s : State) : Host.Outcome State Fault Refusal := .next s.answerWifiNetworks

/-- `RPC_RESERVED_COMMAND`: raises `UnknownRpc` (R90, R176). -/
def execRpcReservedCommand (s : State) : Host.Outcome State Fault Refusal := .next s.answerUndecodable

/-- `RPC_MALFORMED`: raises `UnknownRpc` (R132, R136, R176). -/
def execRpcMalformed (s : State) : Host.Outcome State Fault Refusal := .next s.answerUndecodable

/-- `SetState(s)` (R166). -/
def execSetState (v : Byte) (s : State) : Host.Outcome State Fault Refusal := .next (s.enterState v)

/-- `SetError(e)` (R222). -/
def execSetError (e : Byte) (s : State) : Host.Outcome State Fault Refusal := .next (s.raiseError e)

/-- `Dispatch(cmd)` (R168). -/
def execDispatch (cmd : Command) (s : State) : Host.Outcome State Fault Refusal := .next (s.dispatchCommand cmd)

/-- `Dispatch(Unknown | BadChecksum)` (R176). -/
def execDispatchUnknown (v : Verdict) (s : State) : Host.Outcome State Fault Refusal :=
  match v with
  | .unknown => .next (s.dispatchCommand .unknown)
  | .badChecksum => .next (s.dispatchCommand .badChecksum)

/-- `SendDeviceUrl(tag)` (R177). -/
def execSendDeviceUrl (tag : Byte) (s : State) : Host.Outcome State Fault Refusal := .next (s.sendUrl tag)

/-- `TryConnect(ssid, password)`: recorded in `NET`, answered by the environment; it changes no register (R42, R181). -/
def execTryConnect (ssid password : Bytes) (s : State) : Host.Outcome State Fault Refusal :=
  .next { s.netRequest (.tryConnect ssid password) with answer := .flag s.env.tryConnect }

end Sys2Proof.Machine
end

