-- ==== Sys2Proof/Machine/Dispatch.lean ====
section
/-! DEFINITION. exec: one arm per instruction, each one call of its meaning. -/

namespace Sys2Proof.Machine

def exec (i : Instr) (s : State) : Host.Outcome State Fault Refusal :=
  match i with
  | .currentState _ => Sys2Proof.Machine.execCurrentState s
  | .errorState _ => Sys2Proof.Machine.execErrorState s
  | .rpcCommand payload => Sys2Proof.Machine.execRpcCommand payload s
  | .rpcResponse _ => Sys2Proof.Machine.execRpcResponse s
  | .frameReservedType _ _ => Sys2Proof.Machine.execFrameReservedType s
  | .wifiSettings ssid password _ => Sys2Proof.Machine.execWifiSettings ssid password s
  | .getCurrentState _ => Sys2Proof.Machine.execGetCurrentState s
  | .getDeviceInfo _ => Sys2Proof.Machine.execGetDeviceInfo s
  | .getWifiNetworks _ => Sys2Proof.Machine.execGetWifiNetworks s
  | .rpcReservedCommand _ _ => Sys2Proof.Machine.execRpcReservedCommand s
  | .rpcMalformed _ => Sys2Proof.Machine.execRpcMalformed s
  | .pPreamble b => Sys2Proof.Machine.execPPreamble b s
  | .pVersion b => Sys2Proof.Machine.execPVersion b s
  | .pType b => Sys2Proof.Machine.execPType b s
  | .pLength b => Sys2Proof.Machine.execPLength b s
  | .pPayload b => Sys2Proof.Machine.execPPayload b s
  | .pChecksum b => Sys2Proof.Machine.execPChecksum b s
  | .pChecksumMismatch b => Sys2Proof.Machine.execPChecksumMismatch b s
  | .pChecksumMatch b => Sys2Proof.Machine.execPChecksumMatch b s
  | .rxByte b => Sys2Proof.Machine.execRxByte b s
  | .tick => Sys2Proof.Machine.execTick s
  | .reset => Sys2Proof.Machine.execReset s
  | .decode p check => Sys2Proof.Machine.execDecode p check s
  | .buildRpcResponse tag fields ck => Sys2Proof.Machine.execBuildRpcResponse tag fields ck s
  | .makeFrame t payload => Sys2Proof.Machine.execMakeFrame t payload s
  | .emitState v => Sys2Proof.Machine.execEmitState v s
  | .emitError e => Sys2Proof.Machine.execEmitError e s
  | .emitRpcResponse tag fields => Sys2Proof.Machine.execEmitRpcResponse tag fields s
  | .emit f => Sys2Proof.Machine.execEmit f s
  | .setState v => Sys2Proof.Machine.execSetState v s
  | .setError e => Sys2Proof.Machine.execSetError e s
  | .dispatch cmd => Sys2Proof.Machine.execDispatch cmd s
  | .dispatchUnknown v => Sys2Proof.Machine.execDispatchUnknown v s
  | .sendDeviceUrl tag => Sys2Proof.Machine.execSendDeviceUrl tag s
  | .tryConnect ssid password => Sys2Proof.Machine.execTryConnect ssid password s
  | .cmCycleStart => Sys2Proof.Machine.execCmCycleStart s
  | .cmSuccess => Sys2Proof.Machine.execCmSuccess s
  | .cmTimeout => Sys2Proof.Machine.execCmTimeout s
  | .cmExhaustion => Sys2Proof.Machine.execCmExhaustion s
  | .cmGiveUp => Sys2Proof.Machine.execCmGiveUp s
  | .cmEdge => Sys2Proof.Machine.execCmEdge s

end Sys2Proof.Machine
end

