-- ==== Sys2Proof/Machine/Fetch.lean ====
section
/-! DEFINITION. Fetching: the instruction of an event, what taking an event does before its instruction runs, the
owner's write of the configuration, and the placing of a frame where the next step completes it. -/

namespace Sys2Proof.Machine

/-- The instruction that an event runs (R7). -/
def Event.instr : Event → Instr
  | .reset => .reset
  | .rxByte b => .rxByte b
  | .tick => .tick

/-- Taking an event off the pending input: the environment's answers for its step stand ready, and the time for writing
the configuration is over (R7, R8, R254). -/
def State.take (s : State) (env : Env) (rest : List Input) : State :=
  { s with input := rest, env := env, started := true }

/-- The owning application writes the configuration registers, before the first event after a reset (R253, R254). The
strap sets the reset value of `cred_available` (R29). No value is refused: the ranges of R6 are a premise of statements
(U25), and strings past their bound cost the response (R258; log entry 7). -/
def State.configure (s : State) (c : Config) : Host.Outcome State Fault Refusal :=
  if s.started then .refused .configurationAfterStart
  else .next { s with cfg := c, credAvailable := c.credAvailAtReset }

/-- The candidate frame `bs` received but for its last byte, which is the next pending event (log entry 12). -/
def State.placeFrame (s : State) (bs : Bytes) : State :=
  let body := bs.dropLast
  { s with
    pos := BitVec.ofNat 9 body.length
    buf := s.buf.writeList 0 body
    csum := sum8 body
    input := .event (.rxByte (bs.getLastD 0x00#8)) s.env :: s.input }

/-- The bytes of a stream as pending events (R40). -/
def rxEvents (env : Env) (bs : Bytes) : List Input := bs.map fun b => .event (.rxByte b) env

/-- `withFetchWord`: a word that decodes to an instruction is placed so that the next step completes its frame; the
bytes of any other word are pending as they stand. -/
def State.placeWord (s : State) (nbits w : Nat) : State :=
  match decodeTableWord nbits w, tableWordStream nbits w with
  | some _, some bs => s.placeFrame bs
  | _, _ => { s with input := rxEvents s.env (wordBytes (nbits / 8) w) ++ s.input }

end Sys2Proof.Machine
end

