-- ==== Sys2Proof/Machine/Step.lean ====
section
/-! DEFINITION. The step: one external event (R7), or one write of the configuration (R253); with nothing pending the
block is idle and holds its state (R243). -/

namespace Sys2Proof.Machine

/-- One step of the machine. -/
def step (s : State) : Host.Outcome State Fault Refusal :=
  match s.input with
  | [] => .next s
  | .configure c :: rest => ({ s with input := rest }).configure c
  | .event e env :: rest => exec e.instr (s.take env rest)

/-- The state in which the next step runs the instruction of a table word (log entry 12). -/
def State.withFetchWord (s : State) (nbits w : Nat) : State := s.placeWord nbits w

end Sys2Proof.Machine
end

