-- ==== Sys2Proof/Safety.lean ====
section
/-! DEFINITION. What counts as a safe run, the invariants of the machine, and the relation of states that no output
tells apart: the terms in which the statements speak. -/

namespace Sys2Proof.Machine

/-! ## Safety -/

/-- A faulted state: the encoder was asked for what the wire format cannot carry (R33, R230). -/
def State.faulted (s : State) : Prop := s.faultEncode = true

/-- A safe state (R33): every claim about outputs takes `fault_encode = 0` as a premise. -/
def State.safe (s : State) : Prop := s.faultEncode = false

/-! ## Runs -/

/-- Receives bytes one after the other, each a whole `RxByte` step, under the answers that stand in the state (R126). -/
def receive : Bytes → State → Host.Outcome State Fault Refusal
  | [], s => .next s
  | b :: r, s =>
    match exec (.rxByte b) s with
    | .next s1 => receive r s1
    | .fault f => .fault f
    | .refused q => .refused q

/-- Takes the pending inputs, one step each. -/
def runSteps : Nat → State → Host.Outcome State Fault Refusal
  | 0, s => .next s
  | n + 1, s =>
    match step s with
    | .next s1 => runSteps n s1
    | .fault f => .fault f
    | .refused q => .refused q

/-! ## Frames and logs -/

/-- The state frame as R151 prints it: eleven bytes, the state value and the checksum at the end. -/
def stateFrame (v : Byte) : Bytes :=
  [0x49#8, 0x4D#8, 0x50#8, 0x52#8, 0x4F#8, 0x56#8, 0x01#8, 0x01#8, 0x01#8, v, 0xE0#8 + v]

/-- The error frame as R152 prints it: eleven bytes, the error code and the checksum at the end. -/
def errorFrame (e : Byte) : Bytes :=
  [0x49#8, 0x4D#8, 0x50#8, 0x52#8, 0x4F#8, 0x56#8, 0x01#8, 0x02#8, 0x01#8, e, 0xE1#8 + e]

/-- An RPC-response frame (R93): type 04, the tag, the data length, the fields. -/
def responseFrame (tag : Byte) (fields : List Bytes) : Bytes :=
  makeFrame 0x04#8 (tag :: lengthByte (fieldsBody fields).length :: fieldsBody fields)

/-- Whether the fields of a response fit the wire format: each 255 bytes at most, the data 253 (R142, R155). -/
def responseFits (fields : List Bytes) : Prop :=
  (∀ f ∈ fields, f.length ≤ 255) ∧ (fieldsBody fields).length ≤ 253

/-- A notification and its delivery to the subscribers `hs`, in order (R44). -/
def notification (hs : List Handle) (e : ObsEvent) : List Output := .obs e :: hs.map fun h => .deliver h e

/-- What raising error `e` puts out (R222): the error frame, and the notification of the error observers where
`OBS_ON_WIRE_ERROR` is set and the code is not 00. -/
def raised (c : Config) (e : Byte) : List Output :=
  .tx (errorFrame e) ::
    if c.obsOnWireError = true ∧ e ≠ 0x00#8 then notification c.errorObservers (.error e.toNat) else []

/-- The fields of a network's response (R175, R182): the ssid, the decimal text of the signal strength, and "NO" for an
open network or "YES" for one that needs authentication. -/
def networkTexts (e : ScanEntry) : List Bytes :=
  [e.ssid, dec e.rssi.toInt, if e.isOpen then [0x4E#8, 0x4F#8] else [0x59#8, 0x45#8, 0x53#8]]

/-- The bound of R258 under which a network's response fits a frame. -/
def networkFits (e : ScanEntry) : Bool := decide (3 + ((networkTexts e).map List.length).sum ≤ 253)

/-- The command that an RPC instruction stands for (R89, R130). -/
def commandOf : Instr → Command
  | .wifiSettings ssid pw _ => .wifiSettings ssid pw
  | .getCurrentState _ => .getCurrentState
  | .getDeviceInfo _ => .getDeviceInfo
  | .getWifiNetworks _ => .getWifiNetworks
  | _ => .unknown

/-- `t` is `s` after the parser accepted byte `b` (R110): the byte stands at the old position, the sum and the position
move on, every other byte and every other register is as before. -/
def State.acceptedBy (s t : State) (b : Byte) : Prop :=
  t.pos.toNat = s.pos.toNat + 1 ∧ t.csum = s.csum + b ∧ t.buf.read s.pos.toNat = b ∧
  (∀ a, a ≠ s.pos.toNat → t.buf.read a = s.buf.read a) ∧ { t with pos := s.pos, csum := s.csum, buf := s.buf } = s

/-- A frame that the block may emit (R84, R86, R87, R150 to R155): a state frame, an error frame with a code the block
raises, or an RPC response. -/
def emittable (f : Bytes) : Prop :=
  (∃ v, legalState v = true ∧ f = makeFrame 0x01#8 [v]) ∨
  (∃ e : Byte, e.toNat ≤ 3 ∧ f = makeFrame 0x02#8 [e]) ∨
  (∃ p : Bytes, 2 ≤ p.length ∧ p.length ≤ 255 ∧ f = makeFrame 0x04#8 p)

/-- The payload byte of the last frame of a type in a list of frames, `0x00` where there is none (R180). -/
def lastPayload (t : Byte) (fs : List Bytes) : Byte :=
  match (fs.filter fun f => byteAt f 7 = t).getLast? with
  | some f => byteAt f 9
  | none => 0x00#8

/-- How often a notification stands in `OBS`. -/
def State.countObs (s : State) (e : ObsEvent) : Nat := s.obs.count e

/-! ## Invariants -/

/-- The parser's invariant (R20 to R22, R120, R123): the buffer is canonical, `pos` is a position of the candidate frame,
the accepted header bytes are the preamble and the version, and `csum` is the sum of the accepted bytes. -/
structure State.ParserInv (s : State) : Prop where
  canonical : s.buf.wf = true
  posRange : s.pos.toNat ≤ 264
  posInFrame : 9 ≤ s.pos.toNat → s.pos.toNat ≤ 9 + s.frameLength
  header : s.candidate.take 7 = (preamble ++ [version]).take s.pos.toNat
  sum : s.csum = sum8 s.candidate

/-- The RPC state machine's invariant (R24, R25, R84 to R87, R180): the status registers hold legal values, they are the
payloads of the last frames of their type, and every frame in `TX` is one the block may emit. -/
structure State.RpcInv (s : State) : Prop where
  stateLegal : legalState s.provState = true
  errorRaised : s.errState.toNat ≤ 3
  frames : ∀ f ∈ s.tx, emittable f
  stateSeen : s.provState = lastPayload 0x01#8 s.tx
  errorSeen : s.errState = lastPayload 0x02#8 s.tx

/-- The Connection Manager's invariant (R26, R27, R29, R192, R197): the retry counter is bounded and below the bound
while not `failed`, a running cycle has credentials and is not `failed`, cached credentials open the gate, the
credential registers hold at most 255 bytes, and nothing of this moved before the first event. The configuration and
every pending one are in range, which is the premise U25 (log entry 7). -/
structure State.ManagerInv (s : State) : Prop where
  retriesBound : s.retriesDone.toNat ≤ s.cfg.maxRetries.toNat
  retriesBelow : s.failed = false → s.retriesDone.toNat < s.cfg.maxRetries.toNat
  joining : s.cmPhase = .joining → s.failed = false ∧ s.credValid = true
  gate : s.credValid = true → s.credAvailable = true
  ssidFits : s.credSsid.length ≤ 255
  passwordFits : s.credPassword.length ≤ 255
  config : s.cfg.inRange = true
  fresh : s.started = false → s.retriesDone = 0#8 ∧ s.failed = false ∧ s.cmPhase = .idle ∧ s.credValid = false
  pending : ∀ c, .configure c ∈ s.input → c.inRange = true

/-! ## What no output tells apart -/

/-- An environment without the parts that no rule reads into an output: the answer of `StorageSave` (R43), the content
that a reset leaves in unspecified registers (R250). -/
def Env.visible (e : Env) : Env :=
  { e with saveOk := false, resetContent := Env.placeholder.resetContent }

/-- An input without those parts. -/
def Input.visible : Input → Input
  | .event e env => .event e env.visible
  | .configure c => .configure c

/-- Two states that agree but for what no rule reads: stale buffer bytes (R21, R261), credential strings while
`cred_valid` is 0 (R26), `attempt_deadline` while no cycle runs (R32), answers already used up. -/
structure State.Similar (s t : State) : Prop where
  same : { s with
    buf := t.buf, credSsid := t.credSsid, credPassword := t.credPassword,
    attemptDeadline := t.attemptDeadline, input := t.input, env := t.env } = t
  candidate : s.candidate = t.candidate
  credentials : s.credValid = true → s.credSsid = t.credSsid ∧ s.credPassword = t.credPassword
  deadline : s.cmPhase = .joining → s.attemptDeadline = t.attemptDeadline
  input : s.input.map Input.visible = t.input.map Input.visible

/-- Two outcomes of the same kind: similar next states, or the same stop. -/
def similarOutcome : Host.Outcome State Fault Refusal → Host.Outcome State Fault Refusal → Prop
  | .next s, .next t => s.Similar t
  | .fault f, .fault g => f = g
  | .refused q, .refused r => q = r
  | _, _ => False

end Sys2Proof.Machine
end

