-- ==== Sys2Proof/Certificates/Slice0/Obligations.lean ====
section
/-! DEFINITION. The statements for the provers. -/

open Sys2Proof Sys2Proof.Machine

/-! ## Encoding -/

/-- R98: the worked encodings, word by word, mean the instructions they are given for. -/
def Obligations.WorkedEncodingsDecode : Prop :=
  decodeFrame [0x49#8, 0x4D#8, 0x50#8, 0x52#8, 0x4F#8, 0x56#8, 0x01#8, 0x01#8, 0x01#8, 0x02#8, 0xE2#8] =
    .ok (.currentState [0x02#8], []) ∧
  decodeFrame [0x49#8, 0x4D#8, 0x50#8, 0x52#8, 0x4F#8, 0x56#8, 0x01#8, 0x02#8, 0x01#8, 0x01#8, 0xE2#8] =
    .ok (.errorState [0x01#8], []) ∧
  decodeFrame [0x49#8, 0x4D#8, 0x50#8, 0x52#8, 0x4F#8, 0x56#8, 0x01#8, 0x03#8, 0x10#8, 0x01#8, 0x0E#8, 0x04#8, 0x61#8,
      0x62#8, 0x63#8, 0x64#8, 0x08#8, 0x70#8, 0x61#8, 0x73#8, 0x73#8, 0x77#8, 0x6F#8, 0x72#8, 0x64#8, 0x09#8] =
    .ok (.rpcCommand [0x01#8, 0x0E#8, 0x04#8, 0x61#8, 0x62#8, 0x63#8, 0x64#8, 0x08#8, 0x70#8, 0x61#8, 0x73#8, 0x73#8,
      0x77#8, 0x6F#8, 0x72#8, 0x64#8], []) ∧
  decodeRpc [0x01#8, 0x0E#8, 0x04#8, 0x61#8, 0x62#8, 0x63#8, 0x64#8, 0x08#8, 0x70#8, 0x61#8, 0x73#8, 0x73#8, 0x77#8,
      0x6F#8, 0x72#8, 0x64#8] =
    .wifiSettings [0x61#8, 0x62#8, 0x63#8, 0x64#8] [0x70#8, 0x61#8, 0x73#8, 0x73#8, 0x77#8, 0x6F#8, 0x72#8, 0x64#8] [] ∧
  decodeCommand [0x01#8, 0x0E#8, 0x04#8, 0x61#8, 0x62#8, 0x63#8, 0x64#8, 0x08#8, 0x70#8, 0x61#8, 0x73#8, 0x73#8, 0x77#8,
      0x6F#8, 0x72#8, 0x64#8, 0x18#8] true =
    .wifiSettings [0x61#8, 0x62#8, 0x63#8, 0x64#8] [0x70#8, 0x61#8, 0x73#8, 0x73#8, 0x77#8, 0x6F#8, 0x72#8, 0x64#8]

/-- R80 to R85, R95: a well-formed frame decodes back to its instruction, whatever follows it in the stream. -/
def Obligations.FrameDecodesToWhatWasEncoded : Prop :=
  ∀ (i : Instr) (rest : Bytes), i.format = .frame → i.wellFormed = true →
    ∃ w, encode i = some w ∧ decodeFrame (w ++ rest) = .ok (i, rest)

/-- R88 to R92: a well-formed RPC payload decodes back to its instruction. -/
def Obligations.PayloadDecodesToWhatWasEncoded : Prop :=
  ∀ i : Instr, i.format = .rpc → i.wellFormed = true → ∃ w, encode i = some w ∧ decodeRpc w = i

/-- R80 to R85: whatever the frame decoder reads is a well-formed frame instruction, and its encoding and the bytes left
over are exactly the bytes it was given. -/
def Obligations.DecodedFrameReencodes : Prop :=
  ∀ (bs rest : Bytes) (i : Instr), decodeFrame bs = .ok (i, rest) →
    i.format = .frame ∧ i.wellFormed = true ∧ ∃ w, encode i = some w ∧ bs = w ++ rest

/-- R88 to R92, R132 to R138: every payload of at most 255 bytes is one well-formed RPC instruction, and its encoding is
that payload: no byte is dropped. -/
def Obligations.DecodedPayloadReencodes : Prop :=
  ∀ p : Bytes, p.length ≤ 255 →
    (decodeRpc p).format = .rpc ∧ (decodeRpc p).wellFormed = true ∧ encode (decodeRpc p) = some p

/-- R96: the decoders choose the row that the opcode table's patterns select, in the table's priority order. -/
def Obligations.DecodersFollowTheOpcodeTable : Prop :=
  (∀ (t : Byte) (p : Bytes),
    selectRow frameRows ([0x49#8, 0x4D#8, 0x50#8, 0x52#8, 0x4F#8, 0x56#8, 0x01#8, t]) =
      some (frameInstr t p).mnemonic) ∧
  (∀ (c : Byte) (r : Bytes), (∀ q, decodeRpc (c :: r) ≠ .rpcMalformed q) →
    selectRow rpcRows [c] = some (decodeRpc (c :: r)).mnemonic)

/-- R123 (b): changing any one byte of a frame before its checksum, the checksum kept, leaves no frame that ends where
the old one ended. -/
def Obligations.MutatedFrameIsNoFrame : Prop :=
  ∀ (t : Byte) (p : Bytes) (k : Nat) (v : Byte), p.length ≤ 255 → k < 9 + p.length →
    (makeFrame t p)[k]? ≠ some v → ∀ i, decodeFrame ((makeFrame t p).set k v) ≠ .ok (i, [])

/-- R82, R83: a frame is 10 + L bytes long, 10 at least and 265 at most, and its checksum is `0xDE` plus the type, the
length and the payload's sum, modulo 256. -/
def Obligations.FrameLengthAndChecksum : Prop :=
  ∀ (t : Byte) (p : Bytes), p.length ≤ 255 →
    (makeFrame t p).length = 10 + p.length ∧ 10 ≤ (makeFrame t p).length ∧ (makeFrame t p).length ≤ 265 ∧
    (makeFrame t p).getLast? = some (sum8 (makeFrame t p).dropLast) ∧
    sum8 (makeFrame t p).dropLast = 0xDE#8 + t + BitVec.ofNat 8 p.length + sum8 p

/-! ## The Command Codec -/

/-- R132 to R134, R136, R138, R139: `Decode` writes no register; its checks are made in the stated order and each verdict
is the stated one. (Here and below, the value a procedure returns stands in the model's own field `answer`, log entry
9.) -/
def Obligations.DecodeMakesItsChecksInOrder : Prop :=
  ∀ (p : Bytes) (check : Bool) (s : State),
    ∃ c, exec (.decode p check) s = .next { s with answer := .command c } ∧
    let k := if check then 1 else 0
    ((p.length < 2 + k ∨ ∃ d, p[1]? = some d ∧ d.toNat + 2 + k ≠ p.length) → c = .unknown) ∧
    (∀ d, p[1]? = some d → d.toNat + 2 + k = p.length →
      (check = true ∧ p.getLast? ≠ some (sum8 p.dropLast) → c = .badChecksum) ∧
      (check = false ∨ p.getLast? = some (sum8 p.dropLast) →
        (p[0]? = some 0x02#8 → c = .getCurrentState) ∧
        (p[0]? = some 0x03#8 → c = .getDeviceInfo) ∧
        (p[0]? = some 0x04#8 → c = .getWifiNetworks) ∧
        (∀ x, p[0]? = some x → assigned x = false → c = .unknown)))

/-- R131, R133, R135 to R137: the data of a `WifiSettings` command is two length-prefixed strings, bytes after them are
ignored; data that does not begin with two such strings gives `Unknown`. With checksum as without: the checksum byte at the
end is no data. -/
def Obligations.DecodeReadsTwoFieldsOrGivesUnknown : Prop :=
  ∀ (check : Bool) (s : State),
    let summed := fun p : Bytes => if check then p ++ [sum8 p] else p
    (∀ ssid pw tr : Bytes, 2 + ssid.length + pw.length + tr.length ≤ 255 →
      exec (.decode (summed (rpcPayload 0x01#8 (field ssid ++ field pw ++ tr))) check) s =
        .next { s with answer := .command (.wifiSettings ssid pw) }) ∧
    (∀ a : Bytes, a.length ≤ 255 →
      (∀ ssid pw tr : Bytes, ssid.length ≤ 255 → pw.length ≤ 255 → a ≠ field ssid ++ field pw ++ tr) →
      exec (.decode (summed (rpcPayload 0x01#8 a)) check) s = .next { s with answer := .command .unknown })

/-- R89, R130, R139: the instruction decoder and `Decode` without checksum agree on every payload. -/
def Obligations.PayloadDecodersAgree : Prop :=
  ∀ p : Bytes, commandOf (decodeRpc p) = decodeCommand p false

/-- R144: with both flags true, and with both false, decoding the encoding of a `WifiSettings` gives its strings exactly
when their lengths add up to at most 253; beyond that the encoder refuses. -/
def Obligations.CodecRoundTrip : Prop :=
  ∀ (ssid pw : Bytes) (flag : Bool),
    (ssid.length + pw.length ≤ 253 →
      ∃ bs, buildResponse 0x01#8 [ssid, pw] flag = some bs ∧ decodeCommand bs flag = .wifiSettings ssid pw) ∧
    (253 < ssid.length + pw.length → buildResponse 0x01#8 [ssid, pw] flag = none)

/-- R140 to R143: `BuildRpcResponse` gives the tag, the data length and the fields, and the sum of all of them when asked;
it refuses, and sets `fault_encode`, exactly when a field or the data is longer than 255 bytes. It writes nothing else. -/
def Obligations.BuildRpcResponseEncodesOrRefuses : Prop :=
  ∀ (tag : Byte) (fields : List Bytes) (ck : Bool) (s : State),
    let r := tag :: BitVec.ofNat 8 (fieldsBody fields).length :: fieldsBody fields
    ((∀ f ∈ fields, f.length ≤ 255) ∧ (fieldsBody fields).length ≤ 255 →
      exec (.buildRpcResponse tag fields ck) s =
        .next { s with answer := .bytes (if ck then r ++ [sum8 r] else r) }) ∧
    ((∃ f ∈ fields, 255 < f.length) ∨ 255 < (fieldsBody fields).length →
      exec (.buildRpcResponse tag fields ck) s = .next { s with faultEncode := true, answer := .refused })

/-! ## The Response Emitter -/

/-- R150: `MakeFrame` puts the preamble, the version, the type, the length and the payload in order and their sum behind
them, and writes no register. (The second clause, a payload no frame can carry, is log entry 16.) -/
def Obligations.MakeFrameBuildsTheFrame : Prop :=
  ∀ (t : Byte) (p : Bytes) (s : State),
    let h := [0x49#8, 0x4D#8, 0x50#8, 0x52#8, 0x4F#8, 0x56#8, 0x01#8, t, BitVec.ofNat 8 p.length] ++ p
    (p.length ≤ 255 → exec (.makeFrame t p) s = .next { s with answer := .bytes (h ++ [sum8 h]) }) ∧
    (255 < p.length → exec (.makeFrame t p) s = .next { s with faultEncode := true, answer := .refused })

/-- R151, R152, R154: `EmitState` and `EmitError` append the eleven bytes that the rules print, `Emit` the whole frame it
is given; no register changes. -/
def Obligations.EmittersAppendOneWholeFrame : Prop :=
  ∀ (v : Byte) (f : Bytes) (s : State),
    exec (.emitState v) s = .next { s with out := s.out ++ [.tx (stateFrame v)] } ∧
    exec (.emitError v) s = .next { s with out := s.out ++ [.tx (errorFrame v)] } ∧
    exec (.emit f) s = .next { s with out := s.out ++ [.tx f] }

/-- R153, R155, R177, R230: a response that fits one frame is emitted as one frame; one that does not is withheld and sets
`fault_encode`; nothing else changes. `SendDeviceUrl` is the response with the URL as its one field. -/
def Obligations.ResponseIsEmittedOrWithheld : Prop :=
  ∀ (tag : Byte) (fields : List Bytes) (s : State),
    (responseFits fields →
      exec (.emitRpcResponse tag fields) s = .next { s with out := s.out ++ [.tx (responseFrame tag fields)] }) ∧
    (¬ responseFits fields → exec (.emitRpcResponse tag fields) s = .next { s with faultEncode := true }) ∧
    (s.env.deviceUrl.length ≤ 252 →
      exec (.sendDeviceUrl tag) s = .next { s with out := s.out ++ [.tx (responseFrame tag [s.env.deviceUrl])] }) ∧
    (252 < s.env.deviceUrl.length → exec (.sendDeviceUrl tag) s = .next { s with faultEncode := true })

/-! ## The RPC state machine -/

/-- R166: `SetState` writes `prov_state` and emits the state frame, also when the value is the old one. -/
def Obligations.SetStateWritesAndEmits : Prop :=
  ∀ (v : Byte) (s : State),
    exec (.setState v) s = .next { s with provState := v, out := s.out ++ [.tx (stateFrame v)] }

/-- R222: `SetError` writes `err_state`, emits the error frame, and notifies the error observers only where
`OBS_ON_WIRE_ERROR` is set and the code is not 00. -/
def Obligations.SetErrorWritesEmitsAndMayNotify : Prop :=
  ∀ (e : Byte) (s : State),
    exec (.setError e) s = .next { s with
      errState := e,
      out := s.out ++ ([.tx (errorFrame e)] ++
        if s.cfg.obsOnWireError = true ∧ e ≠ 0x00#8 then
          [.obs (.error e.toNat)] ++ s.cfg.errorObservers.map fun h => .deliver h (.error e.toNat)
        else []) }

/-- R169, R138: `GetCurrentState` answers `Authorized` when not connected, and `Provisioned` and the device URL with tag
02 when connected, whatever its data and whatever the old state; a URL that does not fit is withheld. -/
def Obligations.GetCurrentStateAnswers : Prop :=
  ∀ (d : Bytes) (s : State),
    (s.env.netConnected = false →
      exec (.getCurrentState d) s = .next { s with provState := 0x02#8, out := s.out ++ [.tx (stateFrame 0x02#8)] }) ∧
    (s.env.netConnected = true → s.env.deviceUrl.length ≤ 252 →
      exec (.getCurrentState d) s = .next { s with
        provState := 0x04#8,
        out := s.out ++ [.tx (stateFrame 0x04#8), .tx (responseFrame 0x02#8 [s.env.deviceUrl])] }) ∧
    (s.env.netConnected = true → 252 < s.env.deviceUrl.length →
      exec (.getCurrentState d) s = .next { s with
        provState := 0x04#8, faultEncode := true, out := s.out ++ [.tx (stateFrame 0x04#8)] })

/-- R170: `WifiSettings` with an empty ssid raises `InvalidRpc`; no state frame, no attempt, nothing stored. -/
def Obligations.EmptySsidIsRefused : Prop :=
  ∀ (pw tr : Bytes) (s : State),
    exec (.wifiSettings [] pw tr) s = .next { s with errState := 0x01#8, out := s.out ++ raised s.cfg 0x01#8 }

/-- R171, R172: the success path, its outputs in the order of the rule; the bytes after the password are ignored (R137).
Every register the rule does not name stays, the retry registers among them. A URL that does not fit is withheld
(R155). -/
def Obligations.WifiSettingsSucceeds : Prop :=
  ∀ (ssid pw tr : Bytes) (s : State), ssid ≠ [] → ssid.length ≤ 255 → pw.length ≤ 255 → s.env.tryConnect = true →
    let u : State := { s with
      provState := 0x04#8, errState := 0x00#8,
      credSsid := ssid, credPassword := pw, credValid := true, credAvailable := true }
    let before : List Output := [.tx (stateFrame 0x03#8), .net (.tryConnect ssid pw), .tx (stateFrame 0x04#8),
      .sto (.save ssid pw), .tx (errorFrame 0x00#8)]
    let after : List Output := notification s.cfg.connectedObservers (.connected ssid pw)
    (s.env.deviceUrl.length ≤ 252 →
      exec (.wifiSettings ssid pw tr) s = .next { u with
        out := s.out ++ (before ++ [.tx (responseFrame 0x01#8 [s.env.deviceUrl])] ++ after) }) ∧
    (252 < s.env.deviceUrl.length →
      exec (.wifiSettings ssid pw tr) s = .next { u with faultEncode := true, out := s.out ++ (before ++ after) })

/-- R171, R173: the failure path: `Stopped` and `UnableToConnect`; nothing stored, the credentials unchanged. -/
def Obligations.WifiSettingsFails : Prop :=
  ∀ (ssid pw tr : Bytes) (s : State), ssid ≠ [] → s.env.tryConnect = false →
    exec (.wifiSettings ssid pw tr) s = .next { s with
      provState := 0x00#8, errState := 0x03#8,
      out := s.out ++ ([.tx (stateFrame 0x03#8), .net (.tryConnect ssid pw), .tx (stateFrame 0x00#8)] ++
        raised s.cfg 0x03#8) }

/-- R174, R35: `GetDeviceInfo` sends the four configured strings, firmware name first, and changes no register; strings
beyond the bound of R35 are withheld. -/
def Obligations.DeviceInfoAnswers : Prop :=
  ∀ (d : Bytes) (s : State),
    (s.cfg.deviceInfoFits = true →
      exec (.getDeviceInfo d) s = .next { s with
        out := s.out ++ [.tx (responseFrame 0x03#8 [s.cfg.fwName, s.cfg.fwVersion, s.cfg.chipFamily, s.cfg.devName])] }) ∧
    (s.cfg.deviceInfoFits = false → exec (.getDeviceInfo d) s = .next { s with faultEncode := true })

/-- R175, R182, R258: `GetWifiNetworks` sends one response per network that fits, in the order of the scan, and then the
empty one; a network that does not fit is skipped and sets `fault_encode`; no register changes. -/
def Obligations.NetworkListAnswers : Prop :=
  ∀ (d : Bytes) (s : State),
    exec (.getWifiNetworks d) s = .next { s with
      faultEncode := s.faultEncode || s.env.scan.any fun e => !networkFits e,
      out := s.out ++ ((s.env.scan.filter networkFits).map fun e => .tx (responseFrame 0x04#8 (networkTexts e))) ++
        [.tx [0x49#8, 0x4D#8, 0x50#8, 0x52#8, 0x4F#8, 0x56#8, 0x01#8, 0x04#8, 0x02#8, 0x04#8, 0x00#8, 0xE8#8]] }

/-- R176, R90, R132: every undecodable command raises `UnknownRpc` and leaves the state unchanged. -/
def Obligations.UndecodableRaisesUnknownRpc : Prop :=
  ∀ (c : Byte) (d : Bytes) (v : Verdict) (s : State),
    let t : State := { s with errState := 0x02#8, out := s.out ++ raised s.cfg 0x02#8 }
    exec (.rpcReservedCommand c d) s = .next t ∧ exec (.rpcMalformed d) s = .next t ∧
    exec (.dispatchUnknown v) s = .next t ∧ exec (.dispatch .unknown) s = .next t ∧
    exec (.dispatch .badChecksum) s = .next t

/-- R168: `Dispatch` runs the rule of the command, in every state, and always goes on. -/
def Obligations.DispatchRunsTheRuleOfTheCommand : Prop :=
  ∀ (i : Instr) (s : State), i.format = .rpc →
    ∃ t, exec i s = .next t ∧ exec (.dispatch (commandOf i)) s = .next t

/-- R181, R42: `TryConnect` records the request in `NET`, answers what the environment answers, and changes no register. -/
def Obligations.TryConnectChangesNoRegister : Prop :=
  ∀ (ssid pw : Bytes) (s : State),
    exec (.tryConnect ssid pw) s = .next { s with
      out := s.out ++ [.net (.tryConnect ssid pw)], answer := .flag s.env.tryConnect }

/-! ## Frames -/

/-- R121, R85: a complete valid frame whose type is not 03 refreshes the inactivity deadline and sends the parser back to
position 0; no other register changes and nothing is emitted. -/
def Obligations.OtherFramesOnlyRefreshTheDeadline : Prop :=
  ∀ (ty : Byte) (p : Bytes) (s : State),
    let t : State := { s with
      inactDeadline := s.env.now + s.cfg.tInact, inactValid := true, pos := 0#9, csum := 0x00#8 }
    exec (.currentState p) s = .next t ∧ exec (.errorState p) s = .next t ∧ exec (.rpcResponse p) s = .next t ∧
    exec (.frameReservedType ty p) s = .next t

/-- R118: an `RPC_COMMAND` frame refreshes the deadline, runs the instruction that its payload is, and sends the parser
back to position 0. -/
def Obligations.CommandFrameRunsItsPayload : Prop :=
  ∀ (p : Bytes) (s : State),
    ∃ t, exec (decodeRpc p) { s with inactDeadline := s.env.now + s.cfg.tInact, inactValid := true } = .next t ∧
      exec (.rpcCommand p) s = .next { t with pos := 0#9, csum := 0x00#8 }

/-! ## The Frame Parser -/

/-- R111, R112, R110, R224: at positions 0 to 5 the preamble byte, and at position 6 the version, is accepted; any other
byte is a silent framing error that changes `pos` and `csum` alone. -/
def Obligations.PreambleAndVersionBytes : Prop :=
  ∀ (b : Byte) (s : State), s.buf.wf = true →
    (s.pos.toNat ≤ 5 → [0x49#8, 0x4D#8, 0x50#8, 0x52#8, 0x4F#8, 0x56#8][s.pos.toNat]? = some b →
      ∃ t, exec (.pPreamble b) s = .next t ∧ s.acceptedBy t b) ∧
    (s.pos.toNat ≤ 5 → [0x49#8, 0x4D#8, 0x50#8, 0x52#8, 0x4F#8, 0x56#8][s.pos.toNat]? ≠ some b →
      exec (.pPreamble b) s = .next { s with pos := 0#9, csum := 0x00#8 }) ∧
    (s.pos.toNat = 6 → b = 0x01#8 → ∃ t, exec (.pVersion b) s = .next t ∧ s.acceptedBy t b) ∧
    (s.pos.toNat = 6 → b ≠ 0x01#8 → exec (.pVersion b) s = .next { s with pos := 0#9, csum := 0x00#8 })

/-- R113 to R115, R110: the type byte, the length byte and every payload byte are accepted whatever they are. -/
def Obligations.TypeLengthAndPayloadBytesAreAccepted : Prop :=
  ∀ (b : Byte) (s : State), s.buf.wf = true →
    (s.pos.toNat = 7 → ∃ t, exec (.pType b) s = .next t ∧ s.acceptedBy t b) ∧
    (s.pos.toNat = 8 → ∃ t, exec (.pLength b) s = .next t ∧ s.acceptedBy t b) ∧
    (9 ≤ s.pos.toNat → s.pos.toNat ≤ 8 + (s.buf.read 8).toNat →
      ∃ t, exec (.pPayload b) s = .next t ∧ s.acceptedBy t b)

/-- R116, R117, R225: at position 9+L a byte that differs from `csum` raises `InvalidRpc` and sends the parser back to
position 0; the deadline is not refreshed and no other register changes. -/
def Obligations.WrongChecksumRaisesInvalidRpc : Prop :=
  ∀ (b : Byte) (s : State), s.pos.toNat = 9 + (s.buf.read 8).toNat → b ≠ s.csum →
    let t : State := { s with errState := 0x01#8, out := s.out ++ raised s.cfg 0x01#8, pos := 0#9, csum := 0x00#8 }
    exec (.pChecksum b) s = .next t ∧ exec (.pChecksumMismatch b) s = .next t

/-- R116, R118: at position 9+L the byte equal to `csum` completes the frame: it runs the frame's instruction, with the
type and the payload that stand in the buffer. -/
def Obligations.RightChecksumRunsTheFrame : Prop :=
  ∀ (b : Byte) (s : State), s.pos.toNat = 9 + (s.buf.read 8).toNat → b = s.csum →
    ∃ t, exec (frameInstr (s.buf.read 7) (s.buf.readList 9 (s.buf.read 8).toNat)) s = .next t ∧
      exec (.pChecksum b) s = .next t ∧ exec (.pChecksumMatch b) s = .next t

/-- THE MODEL'S CHOICE (log entry 8): a step class run at a position that does not select it stops. -/
def Obligations.StepClassesStopWhereNotSelected : Prop :=
  ∀ (b : Byte) (s : State),
    (5 < s.pos.toNat → exec (.pPreamble b) s = .fault .notSelected) ∧
    (s.pos.toNat ≠ 6 → exec (.pVersion b) s = .fault .notSelected) ∧
    (s.pos.toNat ≠ 7 → exec (.pType b) s = .fault .notSelected) ∧
    (s.pos.toNat ≠ 8 → exec (.pLength b) s = .fault .notSelected) ∧
    (s.pos.toNat < 9 ∨ 8 + (s.buf.read 8).toNat < s.pos.toNat → exec (.pPayload b) s = .fault .notSelected) ∧
    (s.pos.toNat ≠ 9 + (s.buf.read 8).toNat → exec (.pChecksum b) s = .fault .notSelected) ∧
    (s.pos.toNat ≠ 9 + (s.buf.read 8).toNat ∨ b = s.csum → exec (.pChecksumMismatch b) s = .fault .notSelected) ∧
    (s.pos.toNat ≠ 9 + (s.buf.read 8).toNat ∨ b ≠ s.csum → exec (.pChecksumMatch b) s = .fault .notSelected)

/-- R126, R96: wherever `pos` is a position of the candidate frame, the whole step `RxByte` is the step class that the
table selects, and it goes on. -/
def Obligations.RxByteRunsTheSelectedClass : Prop :=
  ∀ (b : Byte) (s : State), (9 ≤ s.pos.toNat → s.pos.toNat ≤ 9 + (s.buf.read 8).toNat) →
    ∃ i t, decodeStep s.pos.toNat (s.buf.read 8) b = some i ∧ exec i s = .next t ∧ exec (.rxByte b) s = .next t

/-- R126, R61, R231: `RxByte` never stops, in any state, and leaves the Connection Manager's own registers, the
configuration and every byte of the buffer but the one at `pos` alone. -/
def Obligations.RxByteAlwaysGoesOn : Prop :=
  ∀ (b : Byte) (s : State), ∃ t, exec (.rxByte b) s = .next t ∧
    t.retriesDone = s.retriesDone ∧ t.lastConnected = s.lastConnected ∧ t.failed = s.failed ∧ t.cmPhase = s.cmPhase ∧
    t.attemptDeadline = s.attemptDeadline ∧ t.cfg = s.cfg ∧ t.input = s.input ∧
    (∀ a, a ≠ s.pos.toNat → t.buf.read a = s.buf.read a) ∧ s.out <+: t.out

/-- R126, R118: receiving the bytes of a well-formed frame one after the other, from position 0, is running the frame's
instruction, its bytes but the checksum stored in the buffer. (The pending events are log entry 1, a frame as an
instruction log entry 11.) -/
def Obligations.ReceivingAFrameRunsItsInstruction : Prop :=
  ∀ (i : Instr) (w : Bytes) (env : Env) (rest : List Input) (s : State),
    i.format = .frame → i.wellFormed = true → encode i = some w →
    s.pos = 0#9 → s.csum = 0x00#8 → s.buf.wf = true → s.input = rxEvents env w ++ rest →
    runSteps w.length s =
      exec i { s with input := rest, env := env, started := true, buf := s.buf.writeList 0 w.dropLast }

/-- R123 (b), R117: a frame with its type byte or one payload byte changed and its checksum kept raises `InvalidRpc` at its
end: no command is dispatched and the deadline is not refreshed. -/
def Obligations.MutatedFrameRaisesInvalidRpc : Prop :=
  ∀ (t : Byte) (p : Bytes) (k : Nat) (v : Byte) (s : State),
    p.length ≤ 255 → (k = 7 ∨ (9 ≤ k ∧ k < 9 + p.length)) → (makeFrame t p)[k]? ≠ some v →
    s.pos = 0#9 → s.csum = 0x00#8 → s.buf.wf = true →
    receive ((makeFrame t p).set k v) s = .next { s with
      errState := 0x01#8, out := s.out ++ raised s.cfg 0x01#8,
      buf := s.buf.writeList 0 ((frameBody t p).set k v) }

/-! ## The step -/

/-- R7, R8, R243, R253, R254: a step takes the next event and runs its instruction under the environment's answers; with
nothing pending the block is idle. (That a configuration is written by an input of its own, that one of any value is
taken, and that one too late stops the model, is log entry 7.) -/
def Obligations.StepRunsTheNextEvent : Prop :=
  (∀ s : State, s.input = [] → step s = .next s) ∧
  (∀ (b : Byte) (env : Env) (rest : List Input) (s : State), s.input = .event (.rxByte b) env :: rest →
    step s = exec (.rxByte b) { s with input := rest, env := env, started := true }) ∧
  (∀ (env : Env) (rest : List Input) (s : State), s.input = .event .tick env :: rest →
    step s = exec .tick { s with input := rest, env := env, started := true }) ∧
  (∀ (env : Env) (rest : List Input) (s : State), s.input = .event .reset env :: rest →
    step s = exec .reset { s with input := rest, env := env, started := true }) ∧
  (∀ (c : Config) (rest : List Input) (s : State), s.input = .configure c :: rest →
    (s.started = false →
      step s = .next { s with input := rest, cfg := c, credAvailable := c.credAvailAtReset }) ∧
    (s.started = true → step s = .refused .configurationAfterStart))

/-- R118, R123 (a): when the candidate frame in the buffer and the received byte decode to a frame instruction, the step
is that instruction; and a byte completes a frame only if they do. -/
def Obligations.StepRunsTheDecodedFrame : Prop :=
  ∀ (b : Byte) (env : Env) (rest : List Input) (s : State), s.ParserInv → s.input = .event (.rxByte b) env :: rest →
    (∀ i, decodeFrame (s.candidate ++ [b]) = .ok (i, []) →
      step s = exec i { s with input := rest, env := env, started := true }) ∧
    (9 ≤ s.pos.toNat → s.pos.toNat = 9 + (s.buf.read 8).toNat → b = s.csum →
      decodeFrame (s.candidate ++ [b]) =
        .ok (frameInstr (s.buf.read 7) (s.buf.readList 9 (s.buf.read 8).toNat), []))

/-! ## The Connection Manager -/

/-- R193: the start of a cycle, with cached credentials, with credentials that the storage gives, and without any. (A
loaded string longer than its register leaves a free value of at most 255 bytes there, log entry 6.) -/
def Obligations.CycleStarts : Prop :=
  ∀ s : State, s.cmPhase = .idle → s.env.netConnected = false → s.credAvailable = true → s.failed = false →
    (s.credValid = true →
      exec .cmCycleStart s = .next { s with
        cmPhase := .joining, attemptDeadline := s.env.now + s.cfg.tAttempt,
        out := s.out ++ [.net (.beginConnect s.credSsid s.credPassword)] }) ∧
    (∀ ssid pw, s.credValid = false → s.env.storageLoad = some (ssid, pw) →
      ∃ a b : Bytes, a.length ≤ 255 ∧ b.length ≤ 255 ∧ (ssid.length ≤ 255 → a = ssid) ∧ (pw.length ≤ 255 → b = pw) ∧
      exec .cmCycleStart s = .next { s with
        credSsid := a, credPassword := b, credValid := true, credAvailable := true,
        cmPhase := .joining, attemptDeadline := s.env.now + s.cfg.tAttempt,
        out := s.out ++ [.sto .load, .net (.beginConnect a b)] }) ∧
    (s.credValid = false → s.env.storageLoad = none →
      exec .cmCycleStart s = .next { s with out := s.out ++ [.sto .load] })

/-- R195, R196, R197: the end of an attempt: success clears the counter and notifies with the credentials used; a timeout
counts, and the one that reaches `MAX_RETRIES` sets `failed` and notifies `UnableToConnect` once. No frame is emitted. (What
the 8-bit counter holds past 255 is a free value, log entry 20: there the statement leaves `n` open.) -/
def Obligations.AttemptEnds : Prop :=
  ∀ s : State,
    (s.cmPhase = .joining → s.env.netConnected = true →
      exec .cmSuccess s = .next { s with
        retriesDone := 0#8, lastConnected := true, cmPhase := .idle,
        out := s.out ++ notification s.cfg.connectedObservers (.connected s.credSsid s.credPassword) }) ∧
    (s.cmPhase = .joining → s.env.netConnected = false → (s.env.now - s.attemptDeadline).toNat < 2 ^ 31 →
      ∃ n : Byte, (s.retriesDone.toNat < 255 → n.toNat = s.retriesDone.toNat + 1) ∧
      (n ≠ s.cfg.maxRetries → exec .cmTimeout s = .next { s with retriesDone := n, cmPhase := .idle }) ∧
      (n = s.cfg.maxRetries →
        exec .cmTimeout s = .next { s with
          retriesDone := n, cmPhase := .idle, failed := true,
          out := s.out ++ notification s.cfg.errorObservers (.error 3) })) ∧
    (s.retriesDone = s.cfg.maxRetries →
      exec .cmExhaustion s = .next { s with
        failed := true, out := s.out ++ notification s.cfg.errorObservers (.error 3) })

/-- R198, R199: the give-up report makes no attempt; a rising edge notifies `Connected` with the cached credentials or two
empty strings and clears the counter and `failed`; a falling edge notifies `Disconnected`; nothing is stored. -/
def Obligations.GiveUpAndEdges : Prop :=
  ∀ s : State,
    (s.cmPhase = .idle → s.failed = true →
      exec .cmGiveUp s = .next { s with
        out := s.out ++ notification s.cfg.errorObservers (.error s.cfg.errConnectGiveup) }) ∧
    (s.env.netConnected = true → s.lastConnected = false →
      exec .cmEdge s = .next { s with
        retriesDone := 0#8, failed := false, lastConnected := true,
        out := s.out ++ notification s.cfg.connectedObservers
          (if s.credValid then .connected s.credSsid s.credPassword else .connected [] []) }) ∧
    (s.env.netConnected = false → s.lastConnected = true →
      exec .cmEdge s = .next { s with
        lastConnected := false, out := s.out ++ notification s.cfg.disconnectedObservers .disconnected })

/-- THE MODEL'S CHOICE (log entry 8): a part of a tick run in a state that does not select it stops. -/
def Obligations.TickPartsStopWhereNotSelected : Prop :=
  ∀ s : State,
    (s.cmPhase = .joining ∨ s.env.netConnected = true ∨ s.credAvailable = false ∨ s.failed = true →
      exec .cmCycleStart s = .fault .notSelected) ∧
    (s.cmPhase = .idle ∨ s.env.netConnected = false → exec .cmSuccess s = .fault .notSelected) ∧
    (s.cmPhase = .idle ∨ s.env.netConnected = true ∨ 2 ^ 31 ≤ (s.env.now - s.attemptDeadline).toNat →
      exec .cmTimeout s = .fault .notSelected) ∧
    (s.retriesDone ≠ s.cfg.maxRetries → exec .cmExhaustion s = .fault .notSelected) ∧
    (s.cmPhase = .joining ∨ s.failed = false → exec .cmGiveUp s = .fault .notSelected) ∧
    (s.env.netConnected = s.lastConnected → exec .cmEdge s = .fault .notSelected)

/-- R191, R192, R194, R203: a tick runs the part of the policy that its state selects, or nothing, and then the edge
detection where connectivity differs from the last observed value. -/
def Obligations.TickRunsThePolicyThenTheEdge : Prop :=
  ∀ s : State, ∃ u t,
    (s.cmPhase = .joining → s.env.netConnected = true → exec .cmSuccess s = .next u) ∧
    (s.cmPhase = .joining → s.env.netConnected = false → (s.env.now - s.attemptDeadline).toNat < 2 ^ 31 →
      exec .cmTimeout s = .next u) ∧
    (s.cmPhase = .joining → s.env.netConnected = false → 2 ^ 31 ≤ (s.env.now - s.attemptDeadline).toNat → u = s) ∧
    (s.cmPhase = .idle → s.env.netConnected = false → s.credAvailable = true → s.failed = false →
      exec .cmCycleStart s = .next u) ∧
    (s.cmPhase = .idle → s.failed = true → exec .cmGiveUp s = .next u) ∧
    (s.cmPhase = .idle → s.failed = false → (s.env.netConnected = true ∨ s.credAvailable = false) → u = s) ∧
    (s.env.netConnected ≠ u.lastConnected → exec .cmEdge u = .next t) ∧
    (s.env.netConnected = u.lastConnected → t = u) ∧
    exec .tick s = .next t

/-- R203, R156: a tick goes on, emits no frame, and touches neither the parser nor the RPC state machine nor the
inactivity registers; what was put out before stays. -/
def Obligations.TickTouchesOnlyTheConnectionManager : Prop :=
  ∀ s : State, ∃ t, exec .tick s = .next t ∧ t.tx = s.tx ∧ t.pos = s.pos ∧ t.buf = s.buf ∧ t.csum = s.csum ∧
    t.provState = s.provState ∧ t.errState = s.errState ∧ t.inactDeadline = s.inactDeadline ∧
    t.inactValid = s.inactValid ∧ t.faultEncode = s.faultEncode ∧ t.cfg = s.cfg ∧ t.input = s.input ∧ s.out <+: t.out

/-- R204, R197, R30: along any number of ticks that never find the network connected, `UnableToConnect` is notified once
if `failed` becomes set and not at all otherwise, and `failed` is set exactly when the counter reaches `MAX_RETRIES`. -/
def Obligations.ExhaustionNotifiesOnce : Prop :=
  ∀ (envs : List Env) (s : State), s.ManagerInv → s.failed = false → (∀ e ∈ envs, e.netConnected = false) →
    s.input = envs.map (fun e => .event .tick e) →
    ∃ t, runSteps envs.length s = .next t ∧
      t.countObs (.error 3) = s.countObs (.error 3) + (if t.failed then 1 else 0) ∧
      (t.failed = true ↔ t.retriesDone = s.cfg.maxRetries) ∧ s.retriesDone.toNat ≤ t.retriesDone.toNat

/-! ## Reset -/

/-- R250, R251, R252: the event `Reset` puts every register with a stated reset value into it and empties the logs; it
emits nothing. The strap gives `cred_available`, and the observer lists are empty (R39). (That the pending inputs stay
is log entry 4.) -/
def Obligations.ResetPutsTheResetValues : Prop :=
  ∀ s : State, ∃ t, exec .reset s = .next t ∧
    t.pos = 0#9 ∧ t.csum = 0x00#8 ∧ t.inactValid = false ∧ t.inactDeadline = 0#32 ∧ t.provState = 0x00#8 ∧
    t.errState = 0x00#8 ∧ t.credValid = false ∧ t.retriesDone = 0#8 ∧ t.lastConnected = false ∧
    t.credAvailable = s.cfg.credAvailAtReset ∧ t.failed = false ∧ t.cmPhase = .idle ∧ t.faultEncode = false ∧
    t.tx = [] ∧ t.obs = [] ∧ t.net = [] ∧ t.sto = [] ∧ t.buf.wf = true ∧ t.cfg.connectedObservers = [] ∧
    t.cfg.errorObservers = [] ∧ t.cfg.disconnectedObservers = [] ∧ t.input = s.input

/-- R250: the state after reset holds the values the spec states. -/
def Obligations.ResetStateHoldsTheStatedValues : Prop :=
  State.reset.pos = 0#9 ∧ State.reset.csum = 0x00#8 ∧ State.reset.inactValid = false ∧
  State.reset.inactDeadline = 0#32 ∧ State.reset.provState = 0x00#8 ∧ State.reset.errState = 0x00#8 ∧
  State.reset.credValid = false ∧ State.reset.retriesDone = 0#8 ∧ State.reset.lastConnected = false ∧
  State.reset.credAvailable = State.reset.cfg.credAvailAtReset ∧ State.reset.failed = false ∧
  State.reset.cmPhase = .idle ∧ State.reset.faultEncode = false ∧ State.reset.tx = [] ∧ State.reset.obs = [] ∧
  State.reset.net = [] ∧ State.reset.sto = []

/-! ## Invariants and whole-machine rules -/

/-- R20 to R22, R120, R123: every step keeps the parser's invariant: the buffer is canonical, `pos` is a position of the
candidate frame, the accepted header bytes are the preamble and the version, `csum` is their running sum. -/
def Obligations.StepKeepsParserInvariant : Prop :=
  ∀ s s' : State, s.ParserInv → step s = .next s' → s'.ParserInv

/-- R24, R25, R84 to R87, R180: every step keeps the RPC state machine's invariant: legal status registers, equal to the
payload of the last frame of their type, and only well-formed frames of types 1, 2 and 4 in `TX`. -/
def Obligations.StepKeepsRpcInvariant : Prop :=
  ∀ s s' : State, s.RpcInv → step s = .next s' → s'.RpcInv

/-- R26, R27, R29, R192, R197: every step keeps the Connection Manager's invariant. (The invariant holds the premise of U25,
log entry 7: the configuration and every pending one are in range.) -/
def Obligations.StepKeepsManagerInvariant : Prop :=
  ∀ s s' : State, s.ManagerInv → step s = .next s' → s'.ManagerInv

/-- The three invariants hold right after reset. -/
def Obligations.ResetMeetsTheInvariants : Prop :=
  State.reset.ParserInv ∧ State.reset.RpcInv ∧ State.reset.ManagerInv

/-- R21, R250, R261, R43: what no rule reads is never observed: two states that agree but for stale buffer bytes, strings
and deadlines that are not valid, the answers of `StorageSave` and the content that a reset leaves behind, step alike and
stay so; their logs are the same. -/
def Obligations.UnreadContentIsNeverObserved : Prop :=
  ∀ s t : State, s.ParserInv → t.ParserInv → s.ManagerInv → t.ManagerInv → s.Similar t →
    similarOutcome (step s) (step t)

/-- R179, R24: `prov_state` moves only on a reset, or when a valid `RPC_COMMAND` frame completes whose payload is
`GetCurrentState` or `WifiSettings` with a non-empty ssid. -/
def Obligations.ProvStateMovesOnlyOnACommand : Prop :=
  ∀ s s' : State, step s = .next s' → s'.provState ≠ s.provState →
    (∃ env rest, s.input = .event .reset env :: rest) ∨
    (∃ b env rest, s.input = .event (.rxByte b) env :: rest ∧ 9 + s.frameLength ≤ s.pos.toNat ∧ b = s.csum ∧
      s.buf.read 7 = 0x03#8 ∧
      (decodeCommand (s.buf.readList 9 s.frameLength) false = .getCurrentState ∨
        ∃ ssid pw, ssid ≠ [] ∧ decodeCommand (s.buf.readList 9 s.frameLength) false = .wifiSettings ssid pw))

/-- R223: `err_state` is sticky: it returns to `None` only on a reset or on a successful `WifiSettings`. -/
def Obligations.ErrStateIsSticky : Prop :=
  ∀ s s' : State, step s = .next s' → s.errState ≠ 0x00#8 → s'.errState = 0x00#8 →
    (∃ env rest, s.input = .event .reset env :: rest) ∨
    (∃ b env rest ssid pw, s.input = .event (.rxByte b) env :: rest ∧ 9 + s.frameLength ≤ s.pos.toNat ∧ b = s.csum ∧
      s.buf.read 7 = 0x03#8 ∧ ssid ≠ [] ∧ env.tryConnect = true ∧
      decodeCommand (s.buf.readList 9 s.frameLength) false = .wifiSettings ssid pw)

/-- R156, R65: frames enter `TX` only when a byte arrives at the checksum position; nothing leaves the logs but by a
reset. -/
def Obligations.FramesLeaveOnlyAtAChecksumByte : Prop :=
  ∀ s s' : State, step s = .next s' →
    (∃ env rest, s.input = .event .reset env :: rest ∧ s'.tx = []) ∨
    (s.out <+: s'.out ∧ (s'.tx ≠ s.tx →
      ∃ b env rest, s.input = .event (.rxByte b) env :: rest ∧ 9 + s.frameLength ≤ s.pos.toNat))

/-- R240: `reached` is right across the wrap of the counter: from the deadline on, for less than 2^31 ms, it answers
true, and for as long before the deadline it answers false. -/
def Obligations.ReachedIsRightAcrossTheWrap : Prop :=
  ∀ (d : Time) (k : Nat), (k < 2 ^ 31 → reached (d + BitVec.ofNat 32 k) d = true) ∧
    (0 < k → k ≤ 2 ^ 31 → reached (d - BitVec.ofNat 32 k) d = false)

/-- R182 and 00_scope.md section 6: the text of a signal strength is a `-` for a negative one and then its decimal digits,
one to three of them, without a leading zero. -/
def Obligations.SignalStrengthText : Prop :=
  ∀ r : Rssi, ∃ ds : List Nat,
    (∀ x ∈ ds, x < 10) ∧ 1 ≤ ds.length ∧ ds.length ≤ 3 ∧ (1 < ds.length → ds.head? ≠ some 0) ∧
    ds.foldl (fun a x => 10 * a + x) 0 = r.toInt.natAbs ∧
    rssiText r = (if r.toInt < 0 then [0x2D#8] else []) ++ ds.map fun x => BitVec.ofNat 8 (0x30 + x)
end

