-- ==== Sys2Proof/Laws/Memory.lean ====
section
/-! SUPPORT. The laws of the frame buffer: read after write, the other bytes, the canonical form. -/

namespace Sys2Proof.Machine

/-! ## Read after write -/

/-- What lies below every listed address reads as 00. -/
theorem read_below_wfFrom {low a : Nat} (h : a < low) : ∀ {m : Memory}, m.wfFrom low = true → m.read a = 0x00#8
  | [], _ => rfl
  | (k, v) :: r, hm => by
    simp only [Memory.wfFrom, Bool.and_eq_true, decide_eq_true_eq] at hm
    have hk : k ≠ a := by omega
    simp only [Memory.read, hk, if_false]
    exact read_below_wfFrom (low := k + 1) (by omega) hm.2

/-- Reading the byte just written gives it. -/
theorem read_write_same (a : Nat) (b : Byte) : ∀ {low : Nat} {m : Memory}, m.wfFrom low = true →
    (m.write a b).read a = b
  | _, [], _ => by
    by_cases hb : b = 0x00#8 <;> simp [Memory.write, Memory.read, hb]
  | _, (k, v) :: r, hm => by
    simp only [Memory.wfFrom, Bool.and_eq_true, decide_eq_true_eq] at hm
    by_cases h1 : k < a
    · have hk : k ≠ a := by omega
      simp only [Memory.write, h1, if_true, Memory.read, hk, if_false]
      exact read_write_same a b hm.2
    · simp only [Memory.write, h1, if_false]
      by_cases hb : b = 0x00#8
      · by_cases hk : k = a
        · simp only [hb, hk, if_true]
          exact read_below_wfFrom (by omega) hm.2
        · simp only [hb, hk, if_true, if_false, Memory.read]
          exact read_below_wfFrom (by omega) hm.2
      · simp [hb, Memory.read]

/-- Writing a byte leaves every other byte alone. -/
theorem read_write_other {a c : Nat} (b : Byte) (h : c ≠ a) : ∀ {m : Memory}, (m.write a b).read c = m.read c
  | [] => by
    by_cases hb : b = 0x00#8 <;> simp [Memory.write, Memory.read, hb, Ne.symm h]
  | (k, v) :: r => by
    by_cases h1 : k < a
    · simp only [Memory.write, h1, if_true, Memory.read, read_write_other b h]
    · by_cases hk : k = a
      · subst hk
        by_cases hb : b = 0x00#8 <;> simp [Memory.write, Memory.read, hb, Ne.symm h]
      · by_cases hb : b = 0x00#8 <;> simp [Memory.write, Memory.read, hb, h1, hk, Ne.symm h]

/-! ## The canonical form -/

/-- The canonical form from a higher address on is one from a lower address on. -/
theorem wfFrom_mono {low low' : Nat} (h : low' ≤ low) : ∀ {m : Memory}, m.wfFrom low = true → m.wfFrom low' = true
  | [], _ => rfl
  | (k, v) :: r, hm => by
    simp only [Memory.wfFrom, Bool.and_eq_true, decide_eq_true_eq] at hm ⊢
    exact ⟨⟨⟨by omega, hm.1.1.2⟩, hm.1.2⟩, hm.2⟩

/-- A write inside the buffer keeps the canonical form. -/
theorem wfFrom_write {a : Nat} (b : Byte) (ha : a < bufSize) : ∀ {low : Nat} {m : Memory}, low ≤ a →
    m.wfFrom low = true → (m.write a b).wfFrom low = true
  | low, [], hl, _ => by
    by_cases hb : b = 0x00#8 <;> simp [Memory.write, Memory.wfFrom, hb, hl, ha]
  | low, (k, v) :: r, hl, hm => by
    have hm' := hm
    simp only [Memory.wfFrom, Bool.and_eq_true, decide_eq_true_eq] at hm
    by_cases h1 : k < a
    · simp only [Memory.write, h1, if_true, Memory.wfFrom, Bool.and_eq_true, decide_eq_true_eq]
      exact ⟨hm.1, wfFrom_write b ha (by omega) hm.2⟩
    · simp only [Memory.write, h1, if_false]
      by_cases hb : b = 0x00#8
      · by_cases hk : k = a
        · simp only [hb, hk, if_true]
          exact wfFrom_mono (by omega) hm.2
        · simpa only [hb, hk, if_true, if_false] using hm'
      · by_cases hk : k = a
        · subst hk
          simp [hb, Memory.wfFrom, hl, ha, hm.2]
        · have hak : a + 1 ≤ k := by omega
          simp [hb, hk, Memory.wfFrom, hl, ha, hak, hm.1.1.2, hm.2]
          simpa using hm.1.2

/-- A write inside the buffer keeps the canonical form. -/
theorem wf_write {a : Nat} (b : Byte) {m : Memory} (ha : a < bufSize) (hm : m.wf = true) : (m.write a b).wf = true :=
  wfFrom_write b ha (Nat.zero_le a) hm

/-- Consecutive writes inside the buffer keep the canonical form. -/
theorem wf_writeList : ∀ (bs : Bytes) {m : Memory} {a : Nat}, a + bs.length ≤ bufSize → m.wf = true →
    (m.writeList a bs).wf = true
  | [], _, _, _, hm => hm
  | b :: r, m, a, ha, hm => by
    simp only [List.length_cons] at ha
    exact wf_writeList r (by omega) (wf_write b (by omega) hm)

/-- The memory right after reset has the canonical form. -/
theorem wf_reset : State.reset.buf.wf = true := rfl

/-! ## Consecutive bytes -/

/-- The number of bytes read. -/
@[simp] theorem length_readList (m : Memory) : ∀ (n a : Nat), (m.readList a n).length = n
  | 0, _ => rfl
  | n + 1, a => by simp [Memory.readList, length_readList m n]

/-- One byte more at the end. -/
theorem readList_succ (m : Memory) : ∀ (n a : Nat), m.readList a (n + 1) = m.readList a n ++ [m.read (a + n)]
  | 0, a => by simp [Memory.readList]
  | n + 1, a => by
    rw [Memory.readList, readList_succ m n (a + 1), Memory.readList]
    simp [Nat.add_comm, Nat.add_left_comm]

/-- Reading in two parts. -/
theorem readList_add (m : Memory) (a n : Nat) : ∀ k, m.readList a (n + k) = m.readList a n ++ m.readList (a + n) k
  | 0 => by simp [Memory.readList]
  | k + 1 => by
    rw [← Nat.add_assoc, readList_succ, readList_add m a n k, readList_succ, List.append_assoc, Nat.add_assoc]

/-- A write at or past the end of what is read changes nothing of it. -/
theorem readList_write_after {m : Memory} {c : Nat} (b : Byte) : ∀ (n a : Nat), a + n ≤ c →
    (m.write c b).readList a n = m.readList a n
  | 0, _, _ => rfl
  | n + 1, a, h => by
    simp only [Memory.readList]
    rw [read_write_other b (by omega), readList_write_after b n (a + 1) (by omega)]

/-- The candidate frame after one more byte. -/
theorem readList_write_end {m : Memory} (hm : m.wf = true) (b : Byte) (n : Nat) :
    (m.write n b).readList 0 (n + 1) = m.readList 0 n ++ [b] := by
  rw [readList_succ, readList_write_after b n 0 (by omega), Nat.zero_add, read_write_same n b hm]

/-- A byte of what was read. -/
theorem getElem?_readList (m : Memory) : ∀ (n a i : Nat), i < n → (m.readList a n)[i]? = some (m.read (a + i))
  | 0, _, _, h => absurd h (Nat.not_lt_zero _)
  | n + 1, a, 0, _ => by simp [Memory.readList]
  | n + 1, a, i + 1, h => by
    simp only [Memory.readList, List.getElem?_cons_succ]
    rw [getElem?_readList m n (a + 1) i (by omega)]
    congr 2
    omega

/-- Reads are the same wherever the bytes are. -/
theorem readList_congr {m m' : Memory} : ∀ (n a : Nat), (∀ i, a ≤ i → i < a + n → m.read i = m'.read i) →
    m.readList a n = m'.readList a n
  | 0, _, _ => rfl
  | n + 1, a, h => by
    simp only [Memory.readList]
    rw [h a (Nat.le_refl a) (by omega), readList_congr n (a + 1) (fun i h1 h2 => h i (by omega) (by omega))]

/-- Consecutive writes leave the bytes before them alone. -/
theorem read_writeList_below : ∀ (bs : Bytes) (m : Memory) (a c : Nat), c < a →
    (m.writeList a bs).read c = m.read c
  | [], _, _, _, _ => rfl
  | b :: r, m, a, c, h => by
    rw [Memory.writeList, read_writeList_below r _ (a + 1) c (by omega), read_write_other b (by omega)]

/-- Consecutive writes can be cut into two. -/
theorem writeList_append : ∀ (xs ys : Bytes) (m : Memory) (a : Nat),
    m.writeList a (xs ++ ys) = (m.writeList a xs).writeList (a + xs.length) ys
  | [], _, _, _ => rfl
  | x :: xs, ys, m, a => by
    simp only [List.cons_append, Memory.writeList, List.length_cons]
    rw [writeList_append xs ys]
    congr 1
    omega

/-- One byte more at the end of what is stored. -/
theorem writeList_concat : ∀ (bs : Bytes) (m : Memory) (a : Nat) (b : Byte),
    m.writeList a (bs ++ [b]) = (m.writeList a bs).write (a + bs.length) b
  | [], _, _, _ => rfl
  | x :: r, m, a, b => by
    simp only [List.cons_append, Memory.writeList, writeList_concat r, List.length_cons]
    congr 1
    omega

/-- Reading back what was stored from address 0 on. -/
theorem readList_writeList {m : Memory} (hm : m.wf = true) (w : Bytes) (hw : w.length ≤ bufSize) :
    (m.writeList 0 w).readList 0 w.length = w := by
  induction w using List.reverseRecOn with
  | nil => rfl
  | append_singleton w b ih =>
    simp only [List.length_append, List.length_singleton] at hw ⊢
    rw [writeList_concat, Nat.zero_add,
      readList_write_end (wf_writeList _ (by omega) hm), ih (by omega)]

end Sys2Proof.Machine
end

