-- ==== Sys2Proof/Laws/State.lean ====
section
/-! SUPPORT. The fields of a state after each plain update of it: one lemma per field per update, true by rfl. -/

namespace Sys2Proof.Machine

@[simp] theorem refreshDeadline_pos (s : State) : s.refreshDeadline.pos = s.pos := rfl
@[simp] theorem refreshDeadline_buf (s : State) : s.refreshDeadline.buf = s.buf := rfl
@[simp] theorem refreshDeadline_csum (s : State) : s.refreshDeadline.csum = s.csum := rfl
@[simp] theorem refreshDeadline_inactDeadline (s : State) :
    s.refreshDeadline.inactDeadline = timeAdd s.env.now s.cfg.tInact := rfl
@[simp] theorem refreshDeadline_inactValid (s : State) : s.refreshDeadline.inactValid = true := rfl
@[simp] theorem refreshDeadline_provState (s : State) : s.refreshDeadline.provState = s.provState := rfl
@[simp] theorem refreshDeadline_errState (s : State) : s.refreshDeadline.errState = s.errState := rfl
@[simp] theorem refreshDeadline_credValid (s : State) : s.refreshDeadline.credValid = s.credValid := rfl
@[simp] theorem refreshDeadline_credSsid (s : State) : s.refreshDeadline.credSsid = s.credSsid := rfl
@[simp] theorem refreshDeadline_credPassword (s : State) : s.refreshDeadline.credPassword = s.credPassword := rfl
@[simp] theorem refreshDeadline_retriesDone (s : State) : s.refreshDeadline.retriesDone = s.retriesDone := rfl
@[simp] theorem refreshDeadline_lastConnected (s : State) : s.refreshDeadline.lastConnected = s.lastConnected := rfl
@[simp] theorem refreshDeadline_credAvailable (s : State) : s.refreshDeadline.credAvailable = s.credAvailable := rfl
@[simp] theorem refreshDeadline_failed (s : State) : s.refreshDeadline.failed = s.failed := rfl
@[simp] theorem refreshDeadline_cmPhase (s : State) : s.refreshDeadline.cmPhase = s.cmPhase := rfl
@[simp] theorem refreshDeadline_attemptDeadline (s : State) :
    s.refreshDeadline.attemptDeadline = s.attemptDeadline := rfl
@[simp] theorem refreshDeadline_faultEncode (s : State) : s.refreshDeadline.faultEncode = s.faultEncode := rfl
@[simp] theorem refreshDeadline_cfg (s : State) : s.refreshDeadline.cfg = s.cfg := rfl
@[simp] theorem refreshDeadline_out (s : State) : s.refreshDeadline.out = s.out := rfl
@[simp] theorem refreshDeadline_input (s : State) : s.refreshDeadline.input = s.input := rfl
@[simp] theorem refreshDeadline_env (s : State) : s.refreshDeadline.env = s.env := rfl
@[simp] theorem refreshDeadline_started (s : State) : s.refreshDeadline.started = s.started := rfl
@[simp] theorem refreshDeadline_answer (s : State) : s.refreshDeadline.answer = s.answer := rfl

@[simp] theorem raiseEncodeFault_pos (s : State) : s.raiseEncodeFault.pos = s.pos := rfl
@[simp] theorem raiseEncodeFault_buf (s : State) : s.raiseEncodeFault.buf = s.buf := rfl
@[simp] theorem raiseEncodeFault_csum (s : State) : s.raiseEncodeFault.csum = s.csum := rfl
@[simp] theorem raiseEncodeFault_inactDeadline (s : State) : s.raiseEncodeFault.inactDeadline = s.inactDeadline := rfl
@[simp] theorem raiseEncodeFault_inactValid (s : State) : s.raiseEncodeFault.inactValid = s.inactValid := rfl
@[simp] theorem raiseEncodeFault_provState (s : State) : s.raiseEncodeFault.provState = s.provState := rfl
@[simp] theorem raiseEncodeFault_errState (s : State) : s.raiseEncodeFault.errState = s.errState := rfl
@[simp] theorem raiseEncodeFault_credValid (s : State) : s.raiseEncodeFault.credValid = s.credValid := rfl
@[simp] theorem raiseEncodeFault_credSsid (s : State) : s.raiseEncodeFault.credSsid = s.credSsid := rfl
@[simp] theorem raiseEncodeFault_credPassword (s : State) : s.raiseEncodeFault.credPassword = s.credPassword := rfl
@[simp] theorem raiseEncodeFault_retriesDone (s : State) : s.raiseEncodeFault.retriesDone = s.retriesDone := rfl
@[simp] theorem raiseEncodeFault_lastConnected (s : State) : s.raiseEncodeFault.lastConnected = s.lastConnected := rfl
@[simp] theorem raiseEncodeFault_credAvailable (s : State) : s.raiseEncodeFault.credAvailable = s.credAvailable := rfl
@[simp] theorem raiseEncodeFault_failed (s : State) : s.raiseEncodeFault.failed = s.failed := rfl
@[simp] theorem raiseEncodeFault_cmPhase (s : State) : s.raiseEncodeFault.cmPhase = s.cmPhase := rfl
@[simp] theorem raiseEncodeFault_attemptDeadline (s : State) :
    s.raiseEncodeFault.attemptDeadline = s.attemptDeadline := rfl
@[simp] theorem raiseEncodeFault_faultEncode (s : State) : s.raiseEncodeFault.faultEncode = true := rfl
@[simp] theorem raiseEncodeFault_cfg (s : State) : s.raiseEncodeFault.cfg = s.cfg := rfl
@[simp] theorem raiseEncodeFault_out (s : State) : s.raiseEncodeFault.out = s.out := rfl
@[simp] theorem raiseEncodeFault_input (s : State) : s.raiseEncodeFault.input = s.input := rfl
@[simp] theorem raiseEncodeFault_env (s : State) : s.raiseEncodeFault.env = s.env := rfl
@[simp] theorem raiseEncodeFault_started (s : State) : s.raiseEncodeFault.started = s.started := rfl
@[simp] theorem raiseEncodeFault_answer (s : State) : s.raiseEncodeFault.answer = s.answer := rfl

@[simp] theorem resetParser_pos (s : State) : s.resetParser.pos = 0#9 := rfl
@[simp] theorem resetParser_buf (s : State) : s.resetParser.buf = s.buf := rfl
@[simp] theorem resetParser_csum (s : State) : s.resetParser.csum = 0x00#8 := rfl
@[simp] theorem resetParser_inactDeadline (s : State) : s.resetParser.inactDeadline = s.inactDeadline := rfl
@[simp] theorem resetParser_inactValid (s : State) : s.resetParser.inactValid = s.inactValid := rfl
@[simp] theorem resetParser_provState (s : State) : s.resetParser.provState = s.provState := rfl
@[simp] theorem resetParser_errState (s : State) : s.resetParser.errState = s.errState := rfl
@[simp] theorem resetParser_credValid (s : State) : s.resetParser.credValid = s.credValid := rfl
@[simp] theorem resetParser_credSsid (s : State) : s.resetParser.credSsid = s.credSsid := rfl
@[simp] theorem resetParser_credPassword (s : State) : s.resetParser.credPassword = s.credPassword := rfl
@[simp] theorem resetParser_retriesDone (s : State) : s.resetParser.retriesDone = s.retriesDone := rfl
@[simp] theorem resetParser_lastConnected (s : State) : s.resetParser.lastConnected = s.lastConnected := rfl
@[simp] theorem resetParser_credAvailable (s : State) : s.resetParser.credAvailable = s.credAvailable := rfl
@[simp] theorem resetParser_failed (s : State) : s.resetParser.failed = s.failed := rfl
@[simp] theorem resetParser_cmPhase (s : State) : s.resetParser.cmPhase = s.cmPhase := rfl
@[simp] theorem resetParser_attemptDeadline (s : State) : s.resetParser.attemptDeadline = s.attemptDeadline := rfl
@[simp] theorem resetParser_faultEncode (s : State) : s.resetParser.faultEncode = s.faultEncode := rfl
@[simp] theorem resetParser_cfg (s : State) : s.resetParser.cfg = s.cfg := rfl
@[simp] theorem resetParser_out (s : State) : s.resetParser.out = s.out := rfl
@[simp] theorem resetParser_input (s : State) : s.resetParser.input = s.input := rfl
@[simp] theorem resetParser_env (s : State) : s.resetParser.env = s.env := rfl
@[simp] theorem resetParser_started (s : State) : s.resetParser.started = s.started := rfl
@[simp] theorem resetParser_answer (s : State) : s.resetParser.answer = s.answer := rfl

@[simp] theorem output_pos (s : State) (o : Output) : (s.output o).pos = s.pos := rfl
@[simp] theorem output_buf (s : State) (o : Output) : (s.output o).buf = s.buf := rfl
@[simp] theorem output_csum (s : State) (o : Output) : (s.output o).csum = s.csum := rfl
@[simp] theorem output_inactDeadline (s : State) (o : Output) : (s.output o).inactDeadline = s.inactDeadline := rfl
@[simp] theorem output_inactValid (s : State) (o : Output) : (s.output o).inactValid = s.inactValid := rfl
@[simp] theorem output_provState (s : State) (o : Output) : (s.output o).provState = s.provState := rfl
@[simp] theorem output_errState (s : State) (o : Output) : (s.output o).errState = s.errState := rfl
@[simp] theorem output_credValid (s : State) (o : Output) : (s.output o).credValid = s.credValid := rfl
@[simp] theorem output_credSsid (s : State) (o : Output) : (s.output o).credSsid = s.credSsid := rfl
@[simp] theorem output_credPassword (s : State) (o : Output) : (s.output o).credPassword = s.credPassword := rfl
@[simp] theorem output_retriesDone (s : State) (o : Output) : (s.output o).retriesDone = s.retriesDone := rfl
@[simp] theorem output_lastConnected (s : State) (o : Output) : (s.output o).lastConnected = s.lastConnected := rfl
@[simp] theorem output_credAvailable (s : State) (o : Output) : (s.output o).credAvailable = s.credAvailable := rfl
@[simp] theorem output_failed (s : State) (o : Output) : (s.output o).failed = s.failed := rfl
@[simp] theorem output_cmPhase (s : State) (o : Output) : (s.output o).cmPhase = s.cmPhase := rfl
@[simp] theorem output_attemptDeadline (s : State) (o : Output) :
    (s.output o).attemptDeadline = s.attemptDeadline := rfl
@[simp] theorem output_faultEncode (s : State) (o : Output) : (s.output o).faultEncode = s.faultEncode := rfl
@[simp] theorem output_cfg (s : State) (o : Output) : (s.output o).cfg = s.cfg := rfl
@[simp] theorem output_out (s : State) (o : Output) : (s.output o).out = s.out ++ [o] := rfl
@[simp] theorem output_input (s : State) (o : Output) : (s.output o).input = s.input := rfl
@[simp] theorem output_env (s : State) (o : Output) : (s.output o).env = s.env := rfl
@[simp] theorem output_started (s : State) (o : Output) : (s.output o).started = s.started := rfl
@[simp] theorem output_answer (s : State) (o : Output) : (s.output o).answer = s.answer := rfl

@[simp] theorem emitFrame_pos (s : State) (f : Bytes) : (s.emitFrame f).pos = s.pos := rfl
@[simp] theorem emitFrame_buf (s : State) (f : Bytes) : (s.emitFrame f).buf = s.buf := rfl
@[simp] theorem emitFrame_csum (s : State) (f : Bytes) : (s.emitFrame f).csum = s.csum := rfl
@[simp] theorem emitFrame_inactDeadline (s : State) (f : Bytes) :
    (s.emitFrame f).inactDeadline = s.inactDeadline := rfl
@[simp] theorem emitFrame_inactValid (s : State) (f : Bytes) : (s.emitFrame f).inactValid = s.inactValid := rfl
@[simp] theorem emitFrame_provState (s : State) (f : Bytes) : (s.emitFrame f).provState = s.provState := rfl
@[simp] theorem emitFrame_errState (s : State) (f : Bytes) : (s.emitFrame f).errState = s.errState := rfl
@[simp] theorem emitFrame_credValid (s : State) (f : Bytes) : (s.emitFrame f).credValid = s.credValid := rfl
@[simp] theorem emitFrame_credSsid (s : State) (f : Bytes) : (s.emitFrame f).credSsid = s.credSsid := rfl
@[simp] theorem emitFrame_credPassword (s : State) (f : Bytes) : (s.emitFrame f).credPassword = s.credPassword := rfl
@[simp] theorem emitFrame_retriesDone (s : State) (f : Bytes) : (s.emitFrame f).retriesDone = s.retriesDone := rfl
@[simp] theorem emitFrame_lastConnected (s : State) (f : Bytes) :
    (s.emitFrame f).lastConnected = s.lastConnected := rfl
@[simp] theorem emitFrame_credAvailable (s : State) (f : Bytes) :
    (s.emitFrame f).credAvailable = s.credAvailable := rfl
@[simp] theorem emitFrame_failed (s : State) (f : Bytes) : (s.emitFrame f).failed = s.failed := rfl
@[simp] theorem emitFrame_cmPhase (s : State) (f : Bytes) : (s.emitFrame f).cmPhase = s.cmPhase := rfl
@[simp] theorem emitFrame_attemptDeadline (s : State) (f : Bytes) :
    (s.emitFrame f).attemptDeadline = s.attemptDeadline := rfl
@[simp] theorem emitFrame_faultEncode (s : State) (f : Bytes) : (s.emitFrame f).faultEncode = s.faultEncode := rfl
@[simp] theorem emitFrame_cfg (s : State) (f : Bytes) : (s.emitFrame f).cfg = s.cfg := rfl
@[simp] theorem emitFrame_out (s : State) (f : Bytes) : (s.emitFrame f).out = s.out ++ [.tx f] := rfl
@[simp] theorem emitFrame_input (s : State) (f : Bytes) : (s.emitFrame f).input = s.input := rfl
@[simp] theorem emitFrame_env (s : State) (f : Bytes) : (s.emitFrame f).env = s.env := rfl
@[simp] theorem emitFrame_started (s : State) (f : Bytes) : (s.emitFrame f).started = s.started := rfl
@[simp] theorem emitFrame_answer (s : State) (f : Bytes) : (s.emitFrame f).answer = s.answer := rfl

@[simp] theorem notify_pos (s : State) (e : ObsEvent) : (s.notify e).pos = s.pos := rfl
@[simp] theorem notify_buf (s : State) (e : ObsEvent) : (s.notify e).buf = s.buf := rfl
@[simp] theorem notify_csum (s : State) (e : ObsEvent) : (s.notify e).csum = s.csum := rfl
@[simp] theorem notify_inactDeadline (s : State) (e : ObsEvent) : (s.notify e).inactDeadline = s.inactDeadline := rfl
@[simp] theorem notify_inactValid (s : State) (e : ObsEvent) : (s.notify e).inactValid = s.inactValid := rfl
@[simp] theorem notify_provState (s : State) (e : ObsEvent) : (s.notify e).provState = s.provState := rfl
@[simp] theorem notify_errState (s : State) (e : ObsEvent) : (s.notify e).errState = s.errState := rfl
@[simp] theorem notify_credValid (s : State) (e : ObsEvent) : (s.notify e).credValid = s.credValid := rfl
@[simp] theorem notify_credSsid (s : State) (e : ObsEvent) : (s.notify e).credSsid = s.credSsid := rfl
@[simp] theorem notify_credPassword (s : State) (e : ObsEvent) : (s.notify e).credPassword = s.credPassword := rfl
@[simp] theorem notify_retriesDone (s : State) (e : ObsEvent) : (s.notify e).retriesDone = s.retriesDone := rfl
@[simp] theorem notify_lastConnected (s : State) (e : ObsEvent) : (s.notify e).lastConnected = s.lastConnected := rfl
@[simp] theorem notify_credAvailable (s : State) (e : ObsEvent) : (s.notify e).credAvailable = s.credAvailable := rfl
@[simp] theorem notify_failed (s : State) (e : ObsEvent) : (s.notify e).failed = s.failed := rfl
@[simp] theorem notify_cmPhase (s : State) (e : ObsEvent) : (s.notify e).cmPhase = s.cmPhase := rfl
@[simp] theorem notify_attemptDeadline (s : State) (e : ObsEvent) :
    (s.notify e).attemptDeadline = s.attemptDeadline := rfl
@[simp] theorem notify_faultEncode (s : State) (e : ObsEvent) : (s.notify e).faultEncode = s.faultEncode := rfl
@[simp] theorem notify_cfg (s : State) (e : ObsEvent) : (s.notify e).cfg = s.cfg := rfl
@[simp] theorem notify_out (s : State) (e : ObsEvent) :
    (s.notify e).out = s.out ++ .obs e :: (Config.subscribers s.cfg e).map fun h => .deliver h e := rfl
@[simp] theorem notify_input (s : State) (e : ObsEvent) : (s.notify e).input = s.input := rfl
@[simp] theorem notify_env (s : State) (e : ObsEvent) : (s.notify e).env = s.env := rfl
@[simp] theorem notify_started (s : State) (e : ObsEvent) : (s.notify e).started = s.started := rfl
@[simp] theorem notify_answer (s : State) (e : ObsEvent) : (s.notify e).answer = s.answer := rfl

@[simp] theorem netRequest_pos (s : State) (r : NetRequest) : (s.netRequest r).pos = s.pos := rfl
@[simp] theorem netRequest_buf (s : State) (r : NetRequest) : (s.netRequest r).buf = s.buf := rfl
@[simp] theorem netRequest_csum (s : State) (r : NetRequest) : (s.netRequest r).csum = s.csum := rfl
@[simp] theorem netRequest_inactDeadline (s : State) (r : NetRequest) :
    (s.netRequest r).inactDeadline = s.inactDeadline := rfl
@[simp] theorem netRequest_inactValid (s : State) (r : NetRequest) : (s.netRequest r).inactValid = s.inactValid := rfl
@[simp] theorem netRequest_provState (s : State) (r : NetRequest) : (s.netRequest r).provState = s.provState := rfl
@[simp] theorem netRequest_errState (s : State) (r : NetRequest) : (s.netRequest r).errState = s.errState := rfl
@[simp] theorem netRequest_credValid (s : State) (r : NetRequest) : (s.netRequest r).credValid = s.credValid := rfl
@[simp] theorem netRequest_credSsid (s : State) (r : NetRequest) : (s.netRequest r).credSsid = s.credSsid := rfl
@[simp] theorem netRequest_credPassword (s : State) (r : NetRequest) :
    (s.netRequest r).credPassword = s.credPassword := rfl
@[simp] theorem netRequest_retriesDone (s : State) (r : NetRequest) :
    (s.netRequest r).retriesDone = s.retriesDone := rfl
@[simp] theorem netRequest_lastConnected (s : State) (r : NetRequest) :
    (s.netRequest r).lastConnected = s.lastConnected := rfl
@[simp] theorem netRequest_credAvailable (s : State) (r : NetRequest) :
    (s.netRequest r).credAvailable = s.credAvailable := rfl
@[simp] theorem netRequest_failed (s : State) (r : NetRequest) : (s.netRequest r).failed = s.failed := rfl
@[simp] theorem netRequest_cmPhase (s : State) (r : NetRequest) : (s.netRequest r).cmPhase = s.cmPhase := rfl
@[simp] theorem netRequest_attemptDeadline (s : State) (r : NetRequest) :
    (s.netRequest r).attemptDeadline = s.attemptDeadline := rfl
@[simp] theorem netRequest_faultEncode (s : State) (r : NetRequest) :
    (s.netRequest r).faultEncode = s.faultEncode := rfl
@[simp] theorem netRequest_cfg (s : State) (r : NetRequest) : (s.netRequest r).cfg = s.cfg := rfl
@[simp] theorem netRequest_out (s : State) (r : NetRequest) : (s.netRequest r).out = s.out ++ [.net r] := rfl
@[simp] theorem netRequest_input (s : State) (r : NetRequest) : (s.netRequest r).input = s.input := rfl
@[simp] theorem netRequest_env (s : State) (r : NetRequest) : (s.netRequest r).env = s.env := rfl
@[simp] theorem netRequest_started (s : State) (r : NetRequest) : (s.netRequest r).started = s.started := rfl
@[simp] theorem netRequest_answer (s : State) (r : NetRequest) : (s.netRequest r).answer = s.answer := rfl

@[simp] theorem storage_pos (s : State) (o : StoOp) : (s.storage o).pos = s.pos := rfl
@[simp] theorem storage_buf (s : State) (o : StoOp) : (s.storage o).buf = s.buf := rfl
@[simp] theorem storage_csum (s : State) (o : StoOp) : (s.storage o).csum = s.csum := rfl
@[simp] theorem storage_inactDeadline (s : State) (o : StoOp) : (s.storage o).inactDeadline = s.inactDeadline := rfl
@[simp] theorem storage_inactValid (s : State) (o : StoOp) : (s.storage o).inactValid = s.inactValid := rfl
@[simp] theorem storage_provState (s : State) (o : StoOp) : (s.storage o).provState = s.provState := rfl
@[simp] theorem storage_errState (s : State) (o : StoOp) : (s.storage o).errState = s.errState := rfl
@[simp] theorem storage_credValid (s : State) (o : StoOp) : (s.storage o).credValid = s.credValid := rfl
@[simp] theorem storage_credSsid (s : State) (o : StoOp) : (s.storage o).credSsid = s.credSsid := rfl
@[simp] theorem storage_credPassword (s : State) (o : StoOp) : (s.storage o).credPassword = s.credPassword := rfl
@[simp] theorem storage_retriesDone (s : State) (o : StoOp) : (s.storage o).retriesDone = s.retriesDone := rfl
@[simp] theorem storage_lastConnected (s : State) (o : StoOp) : (s.storage o).lastConnected = s.lastConnected := rfl
@[simp] theorem storage_credAvailable (s : State) (o : StoOp) : (s.storage o).credAvailable = s.credAvailable := rfl
@[simp] theorem storage_failed (s : State) (o : StoOp) : (s.storage o).failed = s.failed := rfl
@[simp] theorem storage_cmPhase (s : State) (o : StoOp) : (s.storage o).cmPhase = s.cmPhase := rfl
@[simp] theorem storage_attemptDeadline (s : State) (o : StoOp) :
    (s.storage o).attemptDeadline = s.attemptDeadline := rfl
@[simp] theorem storage_faultEncode (s : State) (o : StoOp) : (s.storage o).faultEncode = s.faultEncode := rfl
@[simp] theorem storage_cfg (s : State) (o : StoOp) : (s.storage o).cfg = s.cfg := rfl
@[simp] theorem storage_out (s : State) (o : StoOp) : (s.storage o).out = s.out ++ [.sto o] := rfl
@[simp] theorem storage_input (s : State) (o : StoOp) : (s.storage o).input = s.input := rfl
@[simp] theorem storage_env (s : State) (o : StoOp) : (s.storage o).env = s.env := rfl
@[simp] theorem storage_started (s : State) (o : StoOp) : (s.storage o).started = s.started := rfl
@[simp] theorem storage_answer (s : State) (o : StoOp) : (s.storage o).answer = s.answer := rfl

@[simp] theorem emitStateFrame_pos (s : State) (v : Byte) : (s.emitStateFrame v).pos = s.pos := rfl
@[simp] theorem emitStateFrame_buf (s : State) (v : Byte) : (s.emitStateFrame v).buf = s.buf := rfl
@[simp] theorem emitStateFrame_csum (s : State) (v : Byte) : (s.emitStateFrame v).csum = s.csum := rfl
@[simp] theorem emitStateFrame_inactDeadline (s : State) (v : Byte) :
    (s.emitStateFrame v).inactDeadline = s.inactDeadline := rfl
@[simp] theorem emitStateFrame_inactValid (s : State) (v : Byte) :
    (s.emitStateFrame v).inactValid = s.inactValid := rfl
@[simp] theorem emitStateFrame_provState (s : State) (v : Byte) : (s.emitStateFrame v).provState = s.provState := rfl
@[simp] theorem emitStateFrame_errState (s : State) (v : Byte) : (s.emitStateFrame v).errState = s.errState := rfl
@[simp] theorem emitStateFrame_credValid (s : State) (v : Byte) : (s.emitStateFrame v).credValid = s.credValid := rfl
@[simp] theorem emitStateFrame_credSsid (s : State) (v : Byte) : (s.emitStateFrame v).credSsid = s.credSsid := rfl
@[simp] theorem emitStateFrame_credPassword (s : State) (v : Byte) :
    (s.emitStateFrame v).credPassword = s.credPassword := rfl
@[simp] theorem emitStateFrame_retriesDone (s : State) (v : Byte) :
    (s.emitStateFrame v).retriesDone = s.retriesDone := rfl
@[simp] theorem emitStateFrame_lastConnected (s : State) (v : Byte) :
    (s.emitStateFrame v).lastConnected = s.lastConnected := rfl
@[simp] theorem emitStateFrame_credAvailable (s : State) (v : Byte) :
    (s.emitStateFrame v).credAvailable = s.credAvailable := rfl
@[simp] theorem emitStateFrame_failed (s : State) (v : Byte) : (s.emitStateFrame v).failed = s.failed := rfl
@[simp] theorem emitStateFrame_cmPhase (s : State) (v : Byte) : (s.emitStateFrame v).cmPhase = s.cmPhase := rfl
@[simp] theorem emitStateFrame_attemptDeadline (s : State) (v : Byte) :
    (s.emitStateFrame v).attemptDeadline = s.attemptDeadline := rfl
@[simp] theorem emitStateFrame_faultEncode (s : State) (v : Byte) :
    (s.emitStateFrame v).faultEncode = s.faultEncode := rfl
@[simp] theorem emitStateFrame_cfg (s : State) (v : Byte) : (s.emitStateFrame v).cfg = s.cfg := rfl
@[simp] theorem emitStateFrame_out (s : State) (v : Byte) :
    (s.emitStateFrame v).out = s.out ++ [.tx (makeFrame 0x01#8 [v])] := rfl
@[simp] theorem emitStateFrame_input (s : State) (v : Byte) : (s.emitStateFrame v).input = s.input := rfl
@[simp] theorem emitStateFrame_env (s : State) (v : Byte) : (s.emitStateFrame v).env = s.env := rfl
@[simp] theorem emitStateFrame_started (s : State) (v : Byte) : (s.emitStateFrame v).started = s.started := rfl
@[simp] theorem emitStateFrame_answer (s : State) (v : Byte) : (s.emitStateFrame v).answer = s.answer := rfl

@[simp] theorem emitErrorFrame_pos (s : State) (e : Byte) : (s.emitErrorFrame e).pos = s.pos := rfl
@[simp] theorem emitErrorFrame_buf (s : State) (e : Byte) : (s.emitErrorFrame e).buf = s.buf := rfl
@[simp] theorem emitErrorFrame_csum (s : State) (e : Byte) : (s.emitErrorFrame e).csum = s.csum := rfl
@[simp] theorem emitErrorFrame_inactDeadline (s : State) (e : Byte) :
    (s.emitErrorFrame e).inactDeadline = s.inactDeadline := rfl
@[simp] theorem emitErrorFrame_inactValid (s : State) (e : Byte) :
    (s.emitErrorFrame e).inactValid = s.inactValid := rfl
@[simp] theorem emitErrorFrame_provState (s : State) (e : Byte) : (s.emitErrorFrame e).provState = s.provState := rfl
@[simp] theorem emitErrorFrame_errState (s : State) (e : Byte) : (s.emitErrorFrame e).errState = s.errState := rfl
@[simp] theorem emitErrorFrame_credValid (s : State) (e : Byte) : (s.emitErrorFrame e).credValid = s.credValid := rfl
@[simp] theorem emitErrorFrame_credSsid (s : State) (e : Byte) : (s.emitErrorFrame e).credSsid = s.credSsid := rfl
@[simp] theorem emitErrorFrame_credPassword (s : State) (e : Byte) :
    (s.emitErrorFrame e).credPassword = s.credPassword := rfl
@[simp] theorem emitErrorFrame_retriesDone (s : State) (e : Byte) :
    (s.emitErrorFrame e).retriesDone = s.retriesDone := rfl
@[simp] theorem emitErrorFrame_lastConnected (s : State) (e : Byte) :
    (s.emitErrorFrame e).lastConnected = s.lastConnected := rfl
@[simp] theorem emitErrorFrame_credAvailable (s : State) (e : Byte) :
    (s.emitErrorFrame e).credAvailable = s.credAvailable := rfl
@[simp] theorem emitErrorFrame_failed (s : State) (e : Byte) : (s.emitErrorFrame e).failed = s.failed := rfl
@[simp] theorem emitErrorFrame_cmPhase (s : State) (e : Byte) : (s.emitErrorFrame e).cmPhase = s.cmPhase := rfl
@[simp] theorem emitErrorFrame_attemptDeadline (s : State) (e : Byte) :
    (s.emitErrorFrame e).attemptDeadline = s.attemptDeadline := rfl
@[simp] theorem emitErrorFrame_faultEncode (s : State) (e : Byte) :
    (s.emitErrorFrame e).faultEncode = s.faultEncode := rfl
@[simp] theorem emitErrorFrame_cfg (s : State) (e : Byte) : (s.emitErrorFrame e).cfg = s.cfg := rfl
@[simp] theorem emitErrorFrame_out (s : State) (e : Byte) :
    (s.emitErrorFrame e).out = s.out ++ [.tx (makeFrame 0x02#8 [e])] := rfl
@[simp] theorem emitErrorFrame_input (s : State) (e : Byte) : (s.emitErrorFrame e).input = s.input := rfl
@[simp] theorem emitErrorFrame_env (s : State) (e : Byte) : (s.emitErrorFrame e).env = s.env := rfl
@[simp] theorem emitErrorFrame_started (s : State) (e : Byte) : (s.emitErrorFrame e).started = s.started := rfl
@[simp] theorem emitErrorFrame_answer (s : State) (e : Byte) : (s.emitErrorFrame e).answer = s.answer := rfl

@[simp] theorem enterState_pos (s : State) (v : Byte) : (s.enterState v).pos = s.pos := rfl
@[simp] theorem enterState_buf (s : State) (v : Byte) : (s.enterState v).buf = s.buf := rfl
@[simp] theorem enterState_csum (s : State) (v : Byte) : (s.enterState v).csum = s.csum := rfl
@[simp] theorem enterState_inactDeadline (s : State) (v : Byte) :
    (s.enterState v).inactDeadline = s.inactDeadline := rfl
@[simp] theorem enterState_inactValid (s : State) (v : Byte) : (s.enterState v).inactValid = s.inactValid := rfl
@[simp] theorem enterState_provState (s : State) (v : Byte) : (s.enterState v).provState = v := rfl
@[simp] theorem enterState_errState (s : State) (v : Byte) : (s.enterState v).errState = s.errState := rfl
@[simp] theorem enterState_credValid (s : State) (v : Byte) : (s.enterState v).credValid = s.credValid := rfl
@[simp] theorem enterState_credSsid (s : State) (v : Byte) : (s.enterState v).credSsid = s.credSsid := rfl
@[simp] theorem enterState_credPassword (s : State) (v : Byte) : (s.enterState v).credPassword = s.credPassword := rfl
@[simp] theorem enterState_retriesDone (s : State) (v : Byte) : (s.enterState v).retriesDone = s.retriesDone := rfl
@[simp] theorem enterState_lastConnected (s : State) (v : Byte) :
    (s.enterState v).lastConnected = s.lastConnected := rfl
@[simp] theorem enterState_credAvailable (s : State) (v : Byte) :
    (s.enterState v).credAvailable = s.credAvailable := rfl
@[simp] theorem enterState_failed (s : State) (v : Byte) : (s.enterState v).failed = s.failed := rfl
@[simp] theorem enterState_cmPhase (s : State) (v : Byte) : (s.enterState v).cmPhase = s.cmPhase := rfl
@[simp] theorem enterState_attemptDeadline (s : State) (v : Byte) :
    (s.enterState v).attemptDeadline = s.attemptDeadline := rfl
@[simp] theorem enterState_faultEncode (s : State) (v : Byte) : (s.enterState v).faultEncode = s.faultEncode := rfl
@[simp] theorem enterState_cfg (s : State) (v : Byte) : (s.enterState v).cfg = s.cfg := rfl
@[simp] theorem enterState_out (s : State) (v : Byte) :
    (s.enterState v).out = s.out ++ [.tx (makeFrame 0x01#8 [v])] := rfl
@[simp] theorem enterState_input (s : State) (v : Byte) : (s.enterState v).input = s.input := rfl
@[simp] theorem enterState_env (s : State) (v : Byte) : (s.enterState v).env = s.env := rfl
@[simp] theorem enterState_started (s : State) (v : Byte) : (s.enterState v).started = s.started := rfl
@[simp] theorem enterState_answer (s : State) (v : Byte) : (s.enterState v).answer = s.answer := rfl

@[simp] theorem setCredentials_pos (s : State) (a b : Bytes) : (s.setCredentials a b).pos = s.pos := rfl
@[simp] theorem setCredentials_buf (s : State) (a b : Bytes) : (s.setCredentials a b).buf = s.buf := rfl
@[simp] theorem setCredentials_csum (s : State) (a b : Bytes) : (s.setCredentials a b).csum = s.csum := rfl
@[simp] theorem setCredentials_inactDeadline (s : State) (a b : Bytes) :
    (s.setCredentials a b).inactDeadline = s.inactDeadline := rfl
@[simp] theorem setCredentials_inactValid (s : State) (a b : Bytes) :
    (s.setCredentials a b).inactValid = s.inactValid := rfl
@[simp] theorem setCredentials_provState (s : State) (a b : Bytes) :
    (s.setCredentials a b).provState = s.provState := rfl
@[simp] theorem setCredentials_errState (s : State) (a b : Bytes) :
    (s.setCredentials a b).errState = s.errState := rfl
@[simp] theorem setCredentials_credValid (s : State) (a b : Bytes) : (s.setCredentials a b).credValid = true := rfl
@[simp] theorem setCredentials_credSsid (s : State) (a b : Bytes) : (s.setCredentials a b).credSsid = fitText a := rfl
@[simp] theorem setCredentials_credPassword (s : State) (a b : Bytes) :
    (s.setCredentials a b).credPassword = fitText b := rfl
@[simp] theorem setCredentials_retriesDone (s : State) (a b : Bytes) :
    (s.setCredentials a b).retriesDone = s.retriesDone := rfl
@[simp] theorem setCredentials_lastConnected (s : State) (a b : Bytes) :
    (s.setCredentials a b).lastConnected = s.lastConnected := rfl
@[simp] theorem setCredentials_credAvailable (s : State) (a b : Bytes) :
    (s.setCredentials a b).credAvailable = true := rfl
@[simp] theorem setCredentials_failed (s : State) (a b : Bytes) : (s.setCredentials a b).failed = s.failed := rfl
@[simp] theorem setCredentials_cmPhase (s : State) (a b : Bytes) : (s.setCredentials a b).cmPhase = s.cmPhase := rfl
@[simp] theorem setCredentials_attemptDeadline (s : State) (a b : Bytes) :
    (s.setCredentials a b).attemptDeadline = s.attemptDeadline := rfl
@[simp] theorem setCredentials_faultEncode (s : State) (a b : Bytes) :
    (s.setCredentials a b).faultEncode = s.faultEncode := rfl
@[simp] theorem setCredentials_cfg (s : State) (a b : Bytes) : (s.setCredentials a b).cfg = s.cfg := rfl
@[simp] theorem setCredentials_out (s : State) (a b : Bytes) : (s.setCredentials a b).out = s.out := rfl
@[simp] theorem setCredentials_input (s : State) (a b : Bytes) : (s.setCredentials a b).input = s.input := rfl
@[simp] theorem setCredentials_env (s : State) (a b : Bytes) : (s.setCredentials a b).env = s.env := rfl
@[simp] theorem setCredentials_started (s : State) (a b : Bytes) : (s.setCredentials a b).started = s.started := rfl
@[simp] theorem setCredentials_answer (s : State) (a b : Bytes) : (s.setCredentials a b).answer = s.answer := rfl

@[simp] theorem exhaust_pos (s : State) : s.exhaust.pos = s.pos := rfl
@[simp] theorem exhaust_buf (s : State) : s.exhaust.buf = s.buf := rfl
@[simp] theorem exhaust_csum (s : State) : s.exhaust.csum = s.csum := rfl
@[simp] theorem exhaust_inactDeadline (s : State) : s.exhaust.inactDeadline = s.inactDeadline := rfl
@[simp] theorem exhaust_inactValid (s : State) : s.exhaust.inactValid = s.inactValid := rfl
@[simp] theorem exhaust_provState (s : State) : s.exhaust.provState = s.provState := rfl
@[simp] theorem exhaust_errState (s : State) : s.exhaust.errState = s.errState := rfl
@[simp] theorem exhaust_credValid (s : State) : s.exhaust.credValid = s.credValid := rfl
@[simp] theorem exhaust_credSsid (s : State) : s.exhaust.credSsid = s.credSsid := rfl
@[simp] theorem exhaust_credPassword (s : State) : s.exhaust.credPassword = s.credPassword := rfl
@[simp] theorem exhaust_retriesDone (s : State) : s.exhaust.retriesDone = s.retriesDone := rfl
@[simp] theorem exhaust_lastConnected (s : State) : s.exhaust.lastConnected = s.lastConnected := rfl
@[simp] theorem exhaust_credAvailable (s : State) : s.exhaust.credAvailable = s.credAvailable := rfl
@[simp] theorem exhaust_failed (s : State) : s.exhaust.failed = true := rfl
@[simp] theorem exhaust_cmPhase (s : State) : s.exhaust.cmPhase = s.cmPhase := rfl
@[simp] theorem exhaust_attemptDeadline (s : State) : s.exhaust.attemptDeadline = s.attemptDeadline := rfl
@[simp] theorem exhaust_faultEncode (s : State) : s.exhaust.faultEncode = s.faultEncode := rfl
@[simp] theorem exhaust_cfg (s : State) : s.exhaust.cfg = s.cfg := rfl
@[simp] theorem exhaust_out (s : State) :
    s.exhaust.out = s.out ++ .obs (.error 3) :: s.cfg.errorObservers.map fun h => .deliver h (.error 3) := rfl
@[simp] theorem exhaust_input (s : State) : s.exhaust.input = s.input := rfl
@[simp] theorem exhaust_env (s : State) : s.exhaust.env = s.env := rfl
@[simp] theorem exhaust_started (s : State) : s.exhaust.started = s.started := rfl
@[simp] theorem exhaust_answer (s : State) : s.exhaust.answer = s.answer := rfl

@[simp] theorem giveUp_pos (s : State) : s.giveUp.pos = s.pos := rfl
@[simp] theorem giveUp_buf (s : State) : s.giveUp.buf = s.buf := rfl
@[simp] theorem giveUp_csum (s : State) : s.giveUp.csum = s.csum := rfl
@[simp] theorem giveUp_inactDeadline (s : State) : s.giveUp.inactDeadline = s.inactDeadline := rfl
@[simp] theorem giveUp_inactValid (s : State) : s.giveUp.inactValid = s.inactValid := rfl
@[simp] theorem giveUp_provState (s : State) : s.giveUp.provState = s.provState := rfl
@[simp] theorem giveUp_errState (s : State) : s.giveUp.errState = s.errState := rfl
@[simp] theorem giveUp_credValid (s : State) : s.giveUp.credValid = s.credValid := rfl
@[simp] theorem giveUp_credSsid (s : State) : s.giveUp.credSsid = s.credSsid := rfl
@[simp] theorem giveUp_credPassword (s : State) : s.giveUp.credPassword = s.credPassword := rfl
@[simp] theorem giveUp_retriesDone (s : State) : s.giveUp.retriesDone = s.retriesDone := rfl
@[simp] theorem giveUp_lastConnected (s : State) : s.giveUp.lastConnected = s.lastConnected := rfl
@[simp] theorem giveUp_credAvailable (s : State) : s.giveUp.credAvailable = s.credAvailable := rfl
@[simp] theorem giveUp_failed (s : State) : s.giveUp.failed = s.failed := rfl
@[simp] theorem giveUp_cmPhase (s : State) : s.giveUp.cmPhase = s.cmPhase := rfl
@[simp] theorem giveUp_attemptDeadline (s : State) : s.giveUp.attemptDeadline = s.attemptDeadline := rfl
@[simp] theorem giveUp_faultEncode (s : State) : s.giveUp.faultEncode = s.faultEncode := rfl
@[simp] theorem giveUp_cfg (s : State) : s.giveUp.cfg = s.cfg := rfl
@[simp] theorem giveUp_out (s : State) :
    s.giveUp.out = s.out ++ .obs (.error s.cfg.errConnectGiveup) ::
      s.cfg.errorObservers.map fun h => .deliver h (.error s.cfg.errConnectGiveup) := rfl
@[simp] theorem giveUp_input (s : State) : s.giveUp.input = s.input := rfl
@[simp] theorem giveUp_env (s : State) : s.giveUp.env = s.env := rfl
@[simp] theorem giveUp_started (s : State) : s.giveUp.started = s.started := rfl
@[simp] theorem giveUp_answer (s : State) : s.giveUp.answer = s.answer := rfl

@[simp] theorem cycleSuccess_pos (s : State) : s.cycleSuccess.pos = s.pos := rfl
@[simp] theorem cycleSuccess_buf (s : State) : s.cycleSuccess.buf = s.buf := rfl
@[simp] theorem cycleSuccess_csum (s : State) : s.cycleSuccess.csum = s.csum := rfl
@[simp] theorem cycleSuccess_inactDeadline (s : State) : s.cycleSuccess.inactDeadline = s.inactDeadline := rfl
@[simp] theorem cycleSuccess_inactValid (s : State) : s.cycleSuccess.inactValid = s.inactValid := rfl
@[simp] theorem cycleSuccess_provState (s : State) : s.cycleSuccess.provState = s.provState := rfl
@[simp] theorem cycleSuccess_errState (s : State) : s.cycleSuccess.errState = s.errState := rfl
@[simp] theorem cycleSuccess_credValid (s : State) : s.cycleSuccess.credValid = s.credValid := rfl
@[simp] theorem cycleSuccess_credSsid (s : State) : s.cycleSuccess.credSsid = s.credSsid := rfl
@[simp] theorem cycleSuccess_credPassword (s : State) : s.cycleSuccess.credPassword = s.credPassword := rfl
@[simp] theorem cycleSuccess_retriesDone (s : State) : s.cycleSuccess.retriesDone = 0#8 := rfl
@[simp] theorem cycleSuccess_lastConnected (s : State) : s.cycleSuccess.lastConnected = true := rfl
@[simp] theorem cycleSuccess_credAvailable (s : State) : s.cycleSuccess.credAvailable = s.credAvailable := rfl
@[simp] theorem cycleSuccess_failed (s : State) : s.cycleSuccess.failed = s.failed := rfl
@[simp] theorem cycleSuccess_cmPhase (s : State) : s.cycleSuccess.cmPhase = .idle := rfl
@[simp] theorem cycleSuccess_attemptDeadline (s : State) : s.cycleSuccess.attemptDeadline = s.attemptDeadline := rfl
@[simp] theorem cycleSuccess_faultEncode (s : State) : s.cycleSuccess.faultEncode = s.faultEncode := rfl
@[simp] theorem cycleSuccess_cfg (s : State) : s.cycleSuccess.cfg = s.cfg := rfl
@[simp] theorem cycleSuccess_out (s : State) :
    s.cycleSuccess.out = s.out ++ .obs (.connected s.credSsid s.credPassword) ::
      s.cfg.connectedObservers.map fun h => .deliver h (.connected s.credSsid s.credPassword) := rfl
@[simp] theorem cycleSuccess_input (s : State) : s.cycleSuccess.input = s.input := rfl
@[simp] theorem cycleSuccess_env (s : State) : s.cycleSuccess.env = s.env := rfl
@[simp] theorem cycleSuccess_started (s : State) : s.cycleSuccess.started = s.started := rfl
@[simp] theorem cycleSuccess_answer (s : State) : s.cycleSuccess.answer = s.answer := rfl

@[simp] theorem take_pos (s : State) (env : Env) (rest : List Input) : (s.take env rest).pos = s.pos := rfl
@[simp] theorem take_buf (s : State) (env : Env) (rest : List Input) : (s.take env rest).buf = s.buf := rfl
@[simp] theorem take_csum (s : State) (env : Env) (rest : List Input) : (s.take env rest).csum = s.csum := rfl
@[simp] theorem take_inactDeadline (s : State) (env : Env) (rest : List Input) :
    (s.take env rest).inactDeadline = s.inactDeadline := rfl
@[simp] theorem take_inactValid (s : State) (env : Env) (rest : List Input) :
    (s.take env rest).inactValid = s.inactValid := rfl
@[simp] theorem take_provState (s : State) (env : Env) (rest : List Input) :
    (s.take env rest).provState = s.provState := rfl
@[simp] theorem take_errState (s : State) (env : Env) (rest : List Input) :
    (s.take env rest).errState = s.errState := rfl
@[simp] theorem take_credValid (s : State) (env : Env) (rest : List Input) :
    (s.take env rest).credValid = s.credValid := rfl
@[simp] theorem take_credSsid (s : State) (env : Env) (rest : List Input) :
    (s.take env rest).credSsid = s.credSsid := rfl
@[simp] theorem take_credPassword (s : State) (env : Env) (rest : List Input) :
    (s.take env rest).credPassword = s.credPassword := rfl
@[simp] theorem take_retriesDone (s : State) (env : Env) (rest : List Input) :
    (s.take env rest).retriesDone = s.retriesDone := rfl
@[simp] theorem take_lastConnected (s : State) (env : Env) (rest : List Input) :
    (s.take env rest).lastConnected = s.lastConnected := rfl
@[simp] theorem take_credAvailable (s : State) (env : Env) (rest : List Input) :
    (s.take env rest).credAvailable = s.credAvailable := rfl
@[simp] theorem take_failed (s : State) (env : Env) (rest : List Input) : (s.take env rest).failed = s.failed := rfl
@[simp] theorem take_cmPhase (s : State) (env : Env) (rest : List Input) :
    (s.take env rest).cmPhase = s.cmPhase := rfl
@[simp] theorem take_attemptDeadline (s : State) (env : Env) (rest : List Input) :
    (s.take env rest).attemptDeadline = s.attemptDeadline := rfl
@[simp] theorem take_faultEncode (s : State) (env : Env) (rest : List Input) :
    (s.take env rest).faultEncode = s.faultEncode := rfl
@[simp] theorem take_cfg (s : State) (env : Env) (rest : List Input) : (s.take env rest).cfg = s.cfg := rfl
@[simp] theorem take_out (s : State) (env : Env) (rest : List Input) : (s.take env rest).out = s.out := rfl
@[simp] theorem take_input (s : State) (env : Env) (rest : List Input) : (s.take env rest).input = rest := rfl
@[simp] theorem take_env (s : State) (env : Env) (rest : List Input) : (s.take env rest).env = env := rfl
@[simp] theorem take_started (s : State) (env : Env) (rest : List Input) : (s.take env rest).started = true := rfl
@[simp] theorem take_answer (s : State) (env : Env) (rest : List Input) : (s.take env rest).answer = s.answer := rfl

end Sys2Proof.Machine
end

