-- ==== Sys2Proof/Laws/Wire.lean ====
section
/-! SUPPORT. The laws of the wire format's building blocks: sums, lengths, fields, frames. -/

namespace Sys2Proof

/-! ## Sums (R83) -/

/-- The sum of a concatenation. -/
theorem sum8_append : ∀ xs ys : Bytes, sum8 (xs ++ ys) = sum8 xs + sum8 ys
  | [], _ => by simp [sum8]
  | x :: xs, ys => by simp [sum8, sum8_append xs ys, BitVec.add_assoc]

/-- The sum after one more byte: how `csum` runs (R22). -/
theorem sum8_concat (xs : Bytes) (b : Byte) : sum8 (xs ++ [b]) = sum8 xs + b := by
  simp [sum8_append, sum8]

/-- Changing one byte changes the sum by the difference (R123). -/
theorem sum8_set : ∀ (xs : Bytes) (k : Nat) (v : Byte) (h : k < xs.length),
    sum8 (xs.set k v) + xs[k] = sum8 xs + v
  | [], _, _, h => absurd h (Nat.not_lt_zero _)
  | x :: xs, 0, v, _ => by
    simp only [List.set_cons_zero, List.getElem_cons_zero, sum8]
    rw [BitVec.add_assoc, BitVec.add_comm (sum8 xs) x, BitVec.add_comm v]
  | x :: xs, k + 1, v, h => by
    simp only [List.length_cons] at h
    simp only [List.set_cons_succ, sum8, List.getElem_cons_succ, BitVec.add_assoc]
    rw [sum8_set xs k v (by omega)]

/-! ## Lengths -/

@[simp] theorem length_preamble : preamble.length = 6 := rfl

/-- A length byte says the length it was made from, where the length is a byte's. -/
theorem toNat_lengthByte {n : Nat} (h : n ≤ 255) : (lengthByte n).toNat = n := by
  simp only [lengthByte, BitVec.toNat_ofNat]
  omega

@[simp] theorem length_field (s : Bytes) : (field s).length = s.length + 1 := by simp [field]

@[simp] theorem length_rpcPayload (c : Byte) (d : Bytes) : (rpcPayload c d).length = d.length + 2 := by
  simp [rpcPayload]

@[simp] theorem length_frameBody (t : Byte) (p : Bytes) : (frameBody t p).length = 9 + p.length := by
  simp [frameBody]; omega

/-- A frame is 10 + L bytes long (R82). -/
@[simp] theorem length_makeFrame (t : Byte) (p : Bytes) : (makeFrame t p).length = 10 + p.length := by
  simp [makeFrame]; omega

/-- The data of a response is the sum over its fields of 1 + n (R91). -/
theorem length_fieldsBody : ∀ fs : List Bytes, (fieldsBody fs).length = (fs.map fun f => f.length + 1).sum
  | [] => rfl
  | f :: r => by simp [fieldsBody, length_fieldsBody r]

/-! ## Fields (R91) -/

/-- A field at the front of the data is read back, and the bytes after it are left. -/
theorem parseField_field {s : Bytes} (h : s.length ≤ 255) (r : Bytes) : parseField (field s ++ r) = some (s, r) := by
  simp [field, parseField, toNat_lengthByte h]

/-- What reading a field can give: the bytes are the field and the rest. -/
theorem field_of_parseField {a s r : Bytes} (h : parseField a = some (s, r)) : a = field s ++ r ∧ s.length ≤ 255 := by
  cases a with
  | nil => simp [parseField] at h
  | cons n t =>
    simp only [parseField] at h
    split at h
    · next hn =>
      simp only [Option.some.injEq, Prod.mk.injEq] at h
      obtain ⟨rfl, rfl⟩ := h
      have hn' := n.isLt
      have hl : (t.take n.toNat).length = n.toNat := by simp [hn]
      refine ⟨?_, by omega⟩
      simp only [field, hl, lengthByte, BitVec.ofNat_toNat, BitVec.setWidth_eq, List.cons_append, List.take_append_drop]
    · exact absurd h (by simp)

/-! ## Frames (R80) -/

/-- The bytes of a frame: the preamble, the version, the type, the length, the payload, the checksum. -/
theorem makeFrame_eq (t : Byte) (p : Bytes) :
    makeFrame t p = preamble ++ version :: t :: lengthByte p.length :: (p ++ [sum8 (frameBody t p)]) := by
  simp [makeFrame, frameBody]

/-- A frame without its checksum. -/
@[simp] theorem dropLast_makeFrame (t : Byte) (p : Bytes) : (makeFrame t p).dropLast = frameBody t p := by
  simp [makeFrame]

/-- A row of the table selects a type and a payload; the decoder's choice for an assigned type. -/
theorem frameInstr_reserved {t : Byte} (h : assigned t = false) (p : Bytes) :
    frameInstr t p = .frameReservedType t p := by
  simp [assigned] at h
  simp [frameInstr, h]

end Sys2Proof
end

