-- ==== Sys2Proof/Laws/Ops.lean ====
section
/-! SUPPORT. Once for each shared operation, everything it can do: the registers it writes and the outputs it appends. -/

namespace Sys2Proof.Machine

/-! ## The logs and the credential registers (R41 to R44, R26) -/

/-- A notification appends itself and its deliveries, and adds no frame to `TX`. -/
theorem notify_tx (s : State) (e : ObsEvent) : (s.notify e).tx = s.tx := by
  simp [State.notify, State.tx, Output.frame?]

/-- Appending outputs appends their frames to `TX`. -/
theorem tx_append (s : State) (o : List Output) :
    ({ s with out := s.out ++ o }).tx = s.tx ++ o.filterMap Output.frame? := by
  simp [State.tx]

/-- What a credential register takes has at most 255 bytes, and is the string where that fits. -/
theorem fitText_spec (s : Bytes) : (fitText s).length ≤ 255 ∧ (s.length ≤ 255 → fitText s = s) := by
  unfold fitText
  split <;> simp_all

/-! ## Raising an error (R222) -/

/-- The outputs of `SetError(e)`. -/
def errorOutputs (c : Config) (e : Byte) : List Output :=
  .tx (makeFrame 0x02#8 [e]) ::
    (if c.obsOnWireError ∧ e ≠ 0x00#8 then
      .obs (.error e.toNat) :: c.errorObservers.map fun h => .deliver h (.error e.toNat)
    else [])

/-- `SetError(e)` writes `err_state` and appends its outputs; nothing else. -/
theorem raiseError_eq (s : State) (e : Byte) :
    s.raiseError e = { s with errState := e, out := s.out ++ errorOutputs s.cfg e } := by
  unfold State.raiseError errorOutputs
  by_cases h : s.cfg.obsOnWireError = true ∧ e ≠ 0x00#8
  · simp only [emitErrorFrame_cfg, h, ne_eq, not_false_eq_true, and_self, if_true]
    simp [State.notify, State.emitErrorFrame, State.emitFrame, State.output, Config.subscribers]
  · simp only [emitErrorFrame_cfg, h, if_false]
    rfl

/-- Where the error observers are not told of wire errors, the only output is the error frame. -/
theorem errorOutputs_quiet {c : Config} (h : c.obsOnWireError = false) (e : Byte) :
    errorOutputs c e = [.tx (makeFrame 0x02#8 [e])] := by
  simp [errorOutputs, h]

/-! ## Responses (R140, R153, R155) -/

/-- Whether a response is refused: a field or a payload that does not fit. -/
def responseRefused (fields : List Bytes) : Bool :=
  (fields.any fun f => decide (255 < f.length)) || decide (253 < (fieldsBody fields).length)

/-- The outputs of `EmitRpcResponse(tag, fields)`. -/
def responseOutputs (tag : Byte) (fields : List Bytes) : List Output :=
  if responseRefused fields then [] else [.tx (makeFrame 0x04#8 (rpcPayload tag (fieldsBody fields)))]

/-- When the encoder refuses. -/
theorem buildResponse_eq_none_iff (tag : Byte) (fields : List Bytes) (ck : Bool) :
    buildResponse tag fields ck = none ↔ (∃ f ∈ fields, 255 < f.length) ∨ 255 < (fieldsBody fields).length := by
  unfold buildResponse
  by_cases h1 : ∃ f ∈ fields, 255 < f.length
  · simp [h1]
  · by_cases h2 : 255 < (fieldsBody fields).length <;> simp [h1, h2]

/-- What the encoder gives. -/
theorem buildResponse_some {tag : Byte} {fields : List Bytes} {ck : Bool} {r : Bytes}
    (h : buildResponse tag fields ck = some r) :
    (fieldsBody fields).length ≤ 255 ∧
      r = if ck then rpcPayload tag (fieldsBody fields) ++ [sum8 (rpcPayload tag (fieldsBody fields))]
          else rpcPayload tag (fieldsBody fields) := by
  unfold buildResponse at h
  by_cases h1 : (fields.any fun f => decide (255 < f.length)) = true
  · rw [if_pos h1] at h; exact absurd h (by simp)
  · rw [if_neg h1] at h
    by_cases h2 : 255 < (fieldsBody fields).length
    · rw [if_pos h2] at h; exact absurd h (by simp)
    · rw [if_neg h2] at h
      simp only [Option.some.injEq] at h
      exact ⟨by omega, h.symm⟩

/-- `EmitRpcResponse` sets the fault flag where it refuses and appends its outputs; nothing else. -/
theorem emitResponse_eq (s : State) (tag : Byte) (fields : List Bytes) :
    s.emitResponse tag fields =
      { s with out := s.out ++ responseOutputs tag fields,
               faultEncode := s.faultEncode || responseRefused fields } := by
  unfold State.emitResponse responseOutputs
  cases hb : buildResponse tag fields false with
  | none =>
    have hr : responseRefused fields = true := by
      rw [buildResponse_eq_none_iff] at hb
      simp only [responseRefused, Bool.or_eq_true, List.any_eq_true, decide_eq_true_eq]
      rcases hb with h | h
      · exact .inl h
      · exact .inr (by omega)
    simp [hr, State.raiseEncodeFault]
  | some r =>
    obtain ⟨hl, hr⟩ := buildResponse_some hb
    simp only [Bool.false_eq_true, if_false] at hr
    have hn : ¬ ∃ f ∈ fields, 255 < f.length := fun h => by
      have := (buildResponse_eq_none_iff tag fields false).mpr (.inl h)
      rw [hb] at this; exact absurd this (by simp)
    have hany : (fields.any fun f => decide (255 < f.length)) = false := by
      rw [List.any_eq_false]
      intro f hf h
      exact hn ⟨f, hf, by simpa using h⟩
    subst hr
    by_cases h : 253 < (fieldsBody fields).length
    · have h' : 255 < (fieldsBody fields).length + 2 := by omega
      simp [responseRefused, h, h', State.raiseEncodeFault]
    · have h' : ¬ 255 < (fieldsBody fields).length + 2 := by omega
      simp [responseRefused, hany, h, h', State.emitFrame, State.output]

/-- The device-URL response (R177). -/
theorem sendUrl_eq (s : State) (tag : Byte) :
    s.sendUrl tag =
      { s with out := s.out ++ responseOutputs tag [s.env.deviceUrl],
               faultEncode := s.faultEncode || responseRefused [s.env.deviceUrl] } :=
  emitResponse_eq s tag _

/-- A URL of at most 252 bytes fits (R177). -/
theorem responseRefused_single (u : Bytes) : responseRefused [u] = decide (252 < u.length) := by
  rw [Bool.eq_iff_iff]
  simp [responseRefused, fieldsBody]
  omega

/-- The responses of a list of networks (R175). -/
theorem emitNetworks_eq : ∀ (l : List ScanEntry) (s : State),
    s.emitNetworks l =
      { s with out := s.out ++ l.flatMap fun e => responseOutputs 0x04#8 (networkFields e),
               faultEncode := s.faultEncode || l.any fun e => responseRefused (networkFields e) }
  | [], s => by simp [State.emitNetworks]
  | e :: r, s => by
    rw [State.emitNetworks, emitNetworks_eq r, emitResponse_eq]
    simp [Bool.or_assoc]

/-- The terminator of the network list always fits. -/
@[simp] theorem responseOutputs_nil (tag : Byte) :
    responseOutputs tag [] = [.tx (makeFrame 0x04#8 [tag, 0x00#8])] := rfl

@[simp] theorem responseRefused_nil : responseRefused [] = false := rfl

/-! ## The commands -/

/-- `GetCurrentState`, connected (R169). -/
theorem answerCurrentState_connected {s : State} (h : s.env.netConnected = true) :
    s.answerCurrentState =
      { s with provState := 0x04#8,
               out := s.out ++ .tx (makeFrame 0x01#8 [0x04#8]) :: responseOutputs 0x02#8 [s.env.deviceUrl],
               faultEncode := s.faultEncode || responseRefused [s.env.deviceUrl] } := by
  simp only [State.answerCurrentState, h, if_true, sendUrl_eq]
  simp [State.enterState, State.emitStateFrame, State.emitFrame, State.output]

/-- `GetCurrentState`, not connected (R169). -/
theorem answerCurrentState_disconnected {s : State} (h : s.env.netConnected = false) :
    s.answerCurrentState =
      { s with provState := 0x02#8, out := s.out ++ [.tx (makeFrame 0x01#8 [0x02#8])] } := by
  simp [State.answerCurrentState, h, State.enterState, State.emitStateFrame, State.emitFrame, State.output]

/-- The success path of `WifiSettings` (R172). -/
theorem wifiSuccess_eq (s : State) (ssid pw : Bytes) :
    s.wifiSuccess ssid pw =
      { s with
        provState := 0x04#8, errState := 0x00#8,
        credSsid := fitText ssid, credPassword := fitText pw, credValid := true, credAvailable := true,
        faultEncode := s.faultEncode || responseRefused [s.env.deviceUrl],
        out := s.out ++ ([.tx (makeFrame 0x01#8 [0x04#8]), .sto (.save ssid pw), .tx (makeFrame 0x02#8 [0x00#8])] ++
          responseOutputs 0x01#8 [s.env.deviceUrl] ++
          .obs (.connected ssid pw) :: s.cfg.connectedObservers.map fun h => .deliver h (.connected ssid pw)) } := by
  simp only [State.wifiSuccess, sendUrl_eq, raiseError_eq]
  simp [State.notify, State.setCredentials, State.storage, State.enterState, State.emitStateFrame, State.emitFrame,
    State.output, Config.subscribers, errorOutputs]

/-- The failure path of `WifiSettings` (R173). -/
theorem wifiFailure_eq (s : State) :
    s.wifiFailure =
      { s with provState := 0x00#8, errState := 0x03#8,
               out := s.out ++ .tx (makeFrame 0x01#8 [0x00#8]) :: errorOutputs s.cfg 0x03#8 } := by
  simp only [State.wifiFailure, raiseError_eq]
  simp [State.enterState, State.emitStateFrame, State.emitFrame, State.output]

/-- `WifiSettings` with an empty ssid (R170). -/
theorem answerWifiSettings_empty (s : State) (pw : Bytes) :
    s.answerWifiSettings [] pw = { s with errState := 0x01#8, out := s.out ++ errorOutputs s.cfg 0x01#8 } := by
  simp [State.answerWifiSettings, raiseError_eq]

/-- `WifiSettings` with a non-empty ssid whose attempt succeeds (R171, R172). -/
theorem answerWifiSettings_success {s : State} {ssid : Bytes} (h : ssid ≠ []) (hc : s.env.tryConnect = true)
    (pw : Bytes) :
    s.answerWifiSettings ssid pw =
      { s with
        provState := 0x04#8, errState := 0x00#8,
        credSsid := fitText ssid, credPassword := fitText pw, credValid := true, credAvailable := true,
        faultEncode := s.faultEncode || responseRefused [s.env.deviceUrl],
        out := s.out ++ ([.tx (makeFrame 0x01#8 [0x03#8]), .net (.tryConnect ssid pw),
            .tx (makeFrame 0x01#8 [0x04#8]), .sto (.save ssid pw), .tx (makeFrame 0x02#8 [0x00#8])] ++
          responseOutputs 0x01#8 [s.env.deviceUrl] ++
          .obs (.connected ssid pw) :: s.cfg.connectedObservers.map fun h => .deliver h (.connected ssid pw)) } := by
  simp only [State.answerWifiSettings, h, if_false, netRequest_env, enterState_env, hc, if_true, wifiSuccess_eq]
  simp [State.netRequest, State.enterState, State.emitStateFrame, State.emitFrame, State.output]

/-- `WifiSettings` with a non-empty ssid whose attempt fails (R171, R173). -/
theorem answerWifiSettings_failure {s : State} {ssid : Bytes} (h : ssid ≠ []) (hc : s.env.tryConnect = false)
    (pw : Bytes) :
    s.answerWifiSettings ssid pw =
      { s with
        provState := 0x00#8, errState := 0x03#8,
        out := s.out ++ ([.tx (makeFrame 0x01#8 [0x03#8]), .net (.tryConnect ssid pw),
            .tx (makeFrame 0x01#8 [0x00#8])] ++ errorOutputs s.cfg 0x03#8) } := by
  simp only [State.answerWifiSettings, h, if_false, netRequest_env, enterState_env, hc, Bool.false_eq_true,
    wifiFailure_eq]
  simp [State.netRequest, State.enterState, State.emitStateFrame, State.emitFrame, State.output]

/-- `GetDeviceInfo` (R174). -/
theorem answerDeviceInfo_eq (s : State) :
    s.answerDeviceInfo =
      { s with
        out := s.out ++ responseOutputs 0x03#8 [s.cfg.fwName, s.cfg.fwVersion, s.cfg.chipFamily, s.cfg.devName],
        faultEncode := s.faultEncode ||
          responseRefused [s.cfg.fwName, s.cfg.fwVersion, s.cfg.chipFamily, s.cfg.devName] } :=
  emitResponse_eq s _ _

/-- `GetWifiNetworks` (R175). -/
theorem answerWifiNetworks_eq (s : State) :
    s.answerWifiNetworks =
      { s with
        out := s.out ++ ((s.env.scan.flatMap fun e => responseOutputs 0x04#8 (networkFields e)) ++
          [.tx (makeFrame 0x04#8 [0x04#8, 0x00#8])]),
        faultEncode := s.faultEncode || s.env.scan.any fun e => responseRefused (networkFields e) } := by
  simp [State.answerWifiNetworks, emitResponse_eq, emitNetworks_eq]

/-- An undecodable command (R176). -/
theorem answerUndecodable_eq (s : State) :
    s.answerUndecodable = { s with errState := 0x02#8, out := s.out ++ errorOutputs s.cfg 0x02#8 } :=
  raiseError_eq s _

/-- What dispatching a command can write: the status registers, the credential registers and their gate, the fault flag
and the logs. Every other field stays (R168, R179). -/
theorem dispatchCommand_writes (s : State) (cmd : Command) :
    ∃ prov err cv cs cp ca fe outs,
      s.dispatchCommand cmd =
        { s with provState := prov, errState := err, credValid := cv, credSsid := cs, credPassword := cp,
                 credAvailable := ca, faultEncode := fe, out := s.out ++ outs } := by
  cases cmd with
  | getCurrentState =>
    cases h : s.env.netConnected
    · exact ⟨_, _, _, _, _, _, _, _, answerCurrentState_disconnected h⟩
    · exact ⟨_, _, _, _, _, _, _, _, answerCurrentState_connected h⟩
  | wifiSettings ssid pw =>
    by_cases hs : ssid = []
    · subst hs
      exact ⟨_, _, _, _, _, _, _, _, answerWifiSettings_empty s pw⟩
    · cases h : s.env.tryConnect
      · exact ⟨_, _, _, _, _, _, _, _, answerWifiSettings_failure hs h pw⟩
      · exact ⟨_, _, _, _, _, _, _, _, answerWifiSettings_success hs h pw⟩
  | getDeviceInfo => exact ⟨_, _, _, _, _, _, _, _, answerDeviceInfo_eq s⟩
  | getWifiNetworks => exact ⟨_, _, _, _, _, _, _, _, answerWifiNetworks_eq s⟩
  | unknown => exact ⟨_, _, _, _, _, _, _, _, answerUndecodable_eq s⟩
  | badChecksum => exact ⟨_, _, _, _, _, _, _, _, answerUndecodable_eq s⟩

/-! ## The parts of a tick -/

/-- What the start of a cycle can do (R193). -/
theorem startCycle_cases (s : State) :
    (s.credValid = true ∧
      s.startCycle = { s with
        cmPhase := .joining, attemptDeadline := timeAdd s.env.now s.cfg.tAttempt,
        out := s.out ++ [.net (.beginConnect s.credSsid s.credPassword)] }) ∨
    (s.credValid = false ∧ s.env.storageLoad = none ∧
      s.startCycle = { s with out := s.out ++ [.sto .load] }) ∨
    (∃ ssid pw, s.credValid = false ∧ s.env.storageLoad = some (ssid, pw) ∧
      s.startCycle = { s with
        credSsid := fitText ssid, credPassword := fitText pw, credValid := true, credAvailable := true,
        cmPhase := .joining, attemptDeadline := timeAdd s.env.now s.cfg.tAttempt,
        out := s.out ++ [.sto .load, .net (.beginConnect (fitText ssid) (fitText pw))] }) := by
  cases hv : s.credValid with
  | true => exact .inl ⟨rfl, by simp [State.startCycle, State.loadCredentials, hv, State.netRequest, State.output]⟩
  | false =>
    cases hl : s.env.storageLoad with
    | none =>
      exact .inr (.inl ⟨rfl, rfl, by
        simp [State.startCycle, State.loadCredentials, hv, hl, State.storage, State.output]⟩)
    | some p =>
      exact .inr (.inr ⟨p.1, p.2, rfl, rfl, by
        simp [State.startCycle, State.loadCredentials, hv, hl, State.storage, State.setCredentials, State.netRequest,
          State.output]⟩)

/-- The success of a cycle (R195). -/
theorem cycleSuccess_eq (s : State) :
    s.cycleSuccess = { s with
      retriesDone := 0#8, lastConnected := true, cmPhase := .idle,
      out := s.out ++ .obs (.connected s.credSsid s.credPassword) ::
        s.cfg.connectedObservers.map fun h => .deliver h (.connected s.credSsid s.credPassword) } := rfl

/-- Retry exhaustion (R197). -/
theorem exhaust_eq (s : State) :
    s.exhaust = { s with
      failed := true,
      out := s.out ++ .obs (.error 3) :: s.cfg.errorObservers.map fun h => .deliver h (.error 3) } := rfl

/-- The give-up report (R198). -/
theorem giveUp_eq (s : State) :
    s.giveUp = { s with
      out := s.out ++ .obs (.error s.cfg.errConnectGiveup) ::
        s.cfg.errorObservers.map fun h => .deliver h (.error s.cfg.errConnectGiveup) } := rfl

/-- What the counter holds after a counted attempt, below its largest value (R27, R196). -/
theorem toNat_countedRetry {s : State} (h : s.retriesDone.toNat < 255) :
    s.countedRetry.toNat = s.retriesDone.toNat + 1 := by
  simp only [State.countedRetry, h, if_true, BitVec.toNat_add, BitVec.toNat_ofNat]
  omega

/-- The timeout of an attempt (R196, R197). -/
theorem cycleTimeout_cases (s : State) :
    (s.countedRetry = s.cfg.maxRetries ∧
      s.cycleTimeout = { s with
        retriesDone := s.countedRetry, cmPhase := .idle, failed := true,
        out := s.out ++ .obs (.error 3) :: s.cfg.errorObservers.map fun h => .deliver h (.error 3) }) ∨
    (s.countedRetry ≠ s.cfg.maxRetries ∧
      s.cycleTimeout = { s with retriesDone := s.countedRetry, cmPhase := .idle }) := by
  by_cases h : s.countedRetry = s.cfg.maxRetries
  · refine .inl ⟨h, ?_⟩
    simp only [State.cycleTimeout, h, if_true]
    rfl
  · exact .inr ⟨h, by simp only [State.cycleTimeout, h, if_false]⟩

/-- What the attempt policy can do (R192, R203). -/
theorem tickPolicy_cases (s : State) (c : Bool) (now : Time) :
    (s.cmPhase = .joining ∧ c = true ∧ s.tickPolicy c now = s.cycleSuccess) ∨
    (s.cmPhase = .joining ∧ c = false ∧ reached now s.attemptDeadline = true ∧
      s.tickPolicy c now = s.cycleTimeout) ∨
    (s.cmPhase = .joining ∧ c = false ∧ reached now s.attemptDeadline = false ∧ s.tickPolicy c now = s) ∨
    (s.cmPhase = .idle ∧ c = false ∧ s.credAvailable = true ∧ s.failed = false ∧
      s.tickPolicy c now = s.startCycle) ∨
    (s.cmPhase = .idle ∧ s.failed = true ∧ s.tickPolicy c now = s.giveUp) ∨
    (s.cmPhase = .idle ∧ s.failed = false ∧ (c = true ∨ s.credAvailable = false) ∧ s.tickPolicy c now = s) := by
  cases hp : s.cmPhase <;> cases c <;> cases hf : s.failed <;> cases ha : s.credAvailable <;>
    cases hr : reached now s.attemptDeadline <;> simp [State.tickPolicy, hp, hf, ha, hr]

end Sys2Proof.Machine
end

