-- ==== Sys2Proof/Laws/Parser.lean ====
section
/-! SUPPORT. What the parser's step can do, said once: it stores the byte, rejects it, finds a wrong checksum or completes
a frame. -/

namespace Sys2Proof.Machine

/-- The state after byte `b` is stored at `pos` (R110). -/
def stored (s : State) (b : Byte) : State :=
  { s with buf := s.buf.write s.pos.toNat b, csum := s.csum + b, pos := s.pos + 1#9 }

/-- When `accept` stores (R110): always below the buffer's end. -/
theorem accept_eq {s : State} (h : s.pos.toNat < bufSize) (b : Byte) : s.accept b = .next (stored s b) := by
  simp [State.accept, h, stored]

/-- `pos` after a stored byte. -/
theorem stored_pos {s : State} (h : s.pos.toNat < bufSize) (b : Byte) : (stored s b).pos.toNat = s.pos.toNat + 1 := by
  simp only [stored, BitVec.toNat_add, BitVec.toNat_ofNat]
  unfold bufSize at h
  omega

/-- The candidate frame after a stored byte (R21). -/
theorem stored_candidate {s : State} (hm : s.buf.wf = true) (h : s.pos.toNat < bufSize) (b : Byte) :
    (stored s b).candidate = s.candidate ++ [b] := by
  simp only [State.candidate, stored_pos h]
  exact readList_write_end hm b s.pos.toNat

/-- Reads inside the candidate frame are defined (R61). -/
theorem memReadByte_eq {s : State} {a : Nat} (h : a < s.pos.toNat) : s.memReadByte a = some (s.buf.read a) := by
  simp only [State.memReadByte]
  rw [if_pos (by omega)]

/-- Reads inside the candidate frame are defined (R61). -/
theorem memRead_eq {s : State} {a n : Nat} (h : a + n ≤ s.pos.toNat) : s.memRead a n = some (s.buf.readList a n) := by
  simp [State.memRead, h]

/-- When the parser is at the checksum position (R116). -/
theorem atChecksum_iff (s : State) : s.atChecksum = true ↔ s.pos.toNat = 9 + (s.buf.read 8).toNat := decide_eq_true_iff

/-- The byte is one the step classes accept at this position (R111 to R115). -/
def acceptsByte (s : State) (b : Byte) : Prop :=
  (s.pos.toNat ≤ 5 ∧ b = preambleAt s.pos.toNat) ∨ (s.pos.toNat = 6 ∧ b = version) ∨ s.pos.toNat = 7 ∨
  s.pos.toNat = 8 ∨ (9 ≤ s.pos.toNat ∧ s.pos.toNat ≤ 8 + s.frameLength)

/-- The byte is a framing error (R224). -/
def framingError (s : State) (b : Byte) : Prop :=
  (s.pos.toNat ≤ 5 ∧ b ≠ preambleAt s.pos.toNat) ∨ (s.pos.toNat = 6 ∧ b ≠ version)

/-- The length byte of a candidate frame is at most 255. -/
theorem frameLength_le (s : State) : s.frameLength ≤ 255 := by
  have := (s.buf.read 8).isLt
  simp only [State.frameLength]
  omega

/-- Accepted positions are below the buffer's end. -/
theorem acceptsByte_lt {s : State} {b : Byte} (h : acceptsByte s b) : s.pos.toNat < bufSize := by
  have := frameLength_le s
  unfold acceptsByte at h
  unfold bufSize
  omega

/-- What `RxByte(b)` can do, in every state (R126): it never stops. -/
theorem execRxByte_cases (s : State) (b : Byte) :
    (framingError s b ∧ execRxByte b s = .next s.resetParser) ∨
    (acceptsByte s b ∧ execRxByte b s = .next (stored s b)) ∨
    (9 + s.frameLength ≤ s.pos.toNat ∧ b ≠ s.csum ∧ execRxByte b s = .next s.checksumMismatch) ∨
    (9 + s.frameLength ≤ s.pos.toNat ∧ b = s.csum ∧
      execRxByte b s = .next (s.checksumMatch (s.buf.read 7) (s.buf.readList 9 s.frameLength))) := by
  have hL := frameLength_le s
  by_cases h5 : s.pos.toNat ≤ 5
  · by_cases hb : b = preambleAt s.pos.toNat
    · have hacc : acceptsByte s b := .inl ⟨h5, hb⟩
      refine .inr (.inl ⟨hacc, ?_⟩)
      have hv : s.verdict (decide (b = preambleAt s.pos.toNat)) b = s.accept b := by
        rw [State.verdict, if_pos (decide_eq_true hb)]
      simp only [execRxByte, h5, if_true, hv, accept_eq (acceptsByte_lt hacc)]
    · refine .inl ⟨.inl ⟨h5, hb⟩, ?_⟩
      simp [execRxByte, h5, hb, State.verdict]
  · by_cases h6 : s.pos.toNat = 6
    · by_cases hb : b = version
      · have hacc : acceptsByte s b := .inr (.inl ⟨h6, hb⟩)
        refine .inr (.inl ⟨hacc, ?_⟩)
        have hv : s.verdict (decide (b = version)) b = s.accept b := by
          rw [State.verdict, if_pos (decide_eq_true hb)]
        rw [← accept_eq (acceptsByte_lt hacc), ← hv]
        simp [execRxByte, h6]
      · refine .inl ⟨.inr ⟨h6, hb⟩, ?_⟩
        simp [execRxByte, h6, hb, State.verdict]
    · by_cases h8 : s.pos.toNat ≤ 8
      · have hacc : acceptsByte s b := by unfold acceptsByte; omega
        refine .inr (.inl ⟨hacc, ?_⟩)
        simp only [execRxByte, h5, h6, h8, if_false, if_true, State.verdict, accept_eq (acceptsByte_lt hacc)]
      · have h7r : s.memReadByte 7 = some (s.buf.read 7) := memReadByte_eq (by omega)
        have h8r : s.memReadByte 8 = some (s.buf.read 8) := memReadByte_eq (by omega)
        by_cases hp : s.pos.toNat ≤ 8 + s.frameLength
        · have hacc : acceptsByte s b := by unfold acceptsByte; omega
          refine .inr (.inl ⟨hacc, ?_⟩)
          have hp' : s.pos.toNat ≤ 8 + (s.buf.read 8).toNat := hp
          simp only [execRxByte, h5, h6, h8, if_false, h7r, h8r, hp', if_true, State.verdict,
            accept_eq (acceptsByte_lt hacc)]
        · have hp' : ¬ s.pos.toNat ≤ 8 + (s.buf.read 8).toNat := hp
          by_cases hb : b = s.csum
          · refine .inr (.inr (.inr ⟨by omega, hb, ?_⟩))
            have hr : s.memRead 9 (s.buf.read 8).toNat = some (s.buf.readList 9 s.frameLength) :=
              memRead_eq (by omega)
            by_cases ht : s.buf.read 7 = 0x03#8
            · simp [execRxByte, h5, h6, h8, h7r, h8r, hp', hb, ht, hr, State.verdict, State.checksumMatch]
            · simp [execRxByte, h5, h6, h8, h7r, h8r, hp', hb, ht, State.verdict, State.checksumMatch]
          · refine .inr (.inr (.inl ⟨by omega, hb, ?_⟩))
            simp [execRxByte, h5, h6, h8, h7r, h8r, hp', hb, State.verdict, State.checksumMismatch]

/-- The wrong checksum (R117): `err_state`, the parser, the outputs; nothing else. -/
theorem checksumMismatch_eq (s : State) :
    s.checksumMismatch =
      { s with errState := 0x01#8, out := s.out ++ errorOutputs s.cfg 0x01#8, pos := 0#9, csum := 0x00#8 } := by
  simp [State.checksumMismatch, raiseError_eq, State.resetParser]

/-- The completion of a frame of a type other than 03 (R121). -/
theorem checksumMatch_other {t : Byte} (h : t ≠ 0x03#8) (s : State) (p : Bytes) :
    s.checksumMatch t p = s.refreshDeadline.resetParser := by
  simp [State.checksumMatch, h]

/-- The completion of an `RPC_COMMAND` frame (R118). -/
theorem checksumMatch_command (s : State) (p : Bytes) :
    s.checksumMatch 0x03#8 p = (s.refreshDeadline.dispatchCommand (decodeCommand p false)).resetParser := by
  simp [State.checksumMatch]

/-- What the completion of a frame can write (R118, R121): the parser, the deadline, and what dispatching writes. -/
theorem checksumMatch_writes (s : State) (t : Byte) (p : Bytes) :
    ∃ prov err cv cs cp ca fe outs,
      s.checksumMatch t p =
        { s with provState := prov, errState := err, credValid := cv, credSsid := cs, credPassword := cp,
                 credAvailable := ca, faultEncode := fe, out := s.out ++ outs, pos := 0#9, csum := 0x00#8,
                 inactDeadline := timeAdd s.env.now s.cfg.tInact, inactValid := true } := by
  by_cases h : t = 0x03#8
  · subst h
    obtain ⟨prov, err, cv, cs, cp, ca, fe, outs, hd⟩ :=
      dispatchCommand_writes s.refreshDeadline (decodeCommand p false)
    refine ⟨prov, err, cv, cs, cp, ca, fe, outs, ?_⟩
    rw [checksumMatch_command, hd]
    rfl
  · refine ⟨s.provState, s.errState, s.credValid, s.credSsid, s.credPassword, s.credAvailable, s.faultEncode, [], ?_⟩
    rw [checksumMatch_other h, List.append_nil]
    rfl

end Sys2Proof.Machine
end

