-- ==== Sys2Proof/Laws/PerInstr.lean ====
section
/-! SUPPORT. Families of facts with one lemma per instruction. EncodingLength: how long the encoding of a well-formed
instruction is, by its format (R82, R88, R96). -/

namespace Sys2Proof.Laws.EncodingLength

/-- The lengths that a format allows: a frame has 10 to 265 bytes (R82), a payload at most 255, a received byte is one
byte. -/
def allowed : Format → Nat → Prop
  | .frame, n => 10 ≤ n ∧ n ≤ 265
  | .rpc, n => n ≤ 255
  | .step, n => n = 1
  | .op, n => n = 1

/-- A well-formed instruction's encoding, where it has one, is as long as its format allows. -/
def Statement (i : Instr) : Prop := i.wellFormed = true → ∀ w, encode i = some w → allowed i.format w.length

/-- A frame with a payload that a length byte can say. -/
theorem frame_allowed {t : Byte} {p w : Bytes} (h : p.length ≤ 255) (hw : some (makeFrame t p) = some w) :
    allowed .frame w.length := by
  simp only [Option.some.injEq] at hw
  subst hw
  simp only [allowed, length_makeFrame]
  omega

/-- A payload whose data fits behind its two header bytes. -/
theorem payload_allowed {c : Byte} {d w : Bytes} (h : d.length ≤ 253) (hw : some (rpcPayload c d) = some w) :
    allowed .rpc w.length := by
  simp only [Option.some.injEq] at hw
  subst hw
  simp only [allowed, length_rpcPayload]
  omega

/-- One byte. -/
theorem byte_allowed {f : Format} {b : Byte} {w : Bytes} (hf : f = .step ∨ f = .op) (hw : some [b] = some w) :
    allowed f w.length := by
  simp only [Option.some.injEq] at hw
  subst hw
  rcases hf with rfl | rfl <;> rfl

/-- An instruction without an encoding. -/
theorem none_allowed {f : Format} {w : Bytes} (hw : none = some w) : allowed f w.length := absurd hw (by simp)

theorem currentState (p : Bytes) : Statement (.currentState p) := fun h _ hw => frame_allowed (of_decide_eq_true h) hw

theorem errorState (p : Bytes) : Statement (.errorState p) := fun h _ hw => frame_allowed (of_decide_eq_true h) hw

theorem rpcCommand (p : Bytes) : Statement (.rpcCommand p) := fun h _ hw => frame_allowed (of_decide_eq_true h) hw

theorem rpcResponse (p : Bytes) : Statement (.rpcResponse p) := fun h _ hw => frame_allowed (of_decide_eq_true h) hw

theorem frameReservedType (t : Byte) (p : Bytes) : Statement (.frameReservedType t p) := fun h _ hw => by
  simp only [Instr.wellFormed, Bool.and_eq_true, decide_eq_true_eq] at h
  exact frame_allowed h.2 hw

theorem wifiSettings (ssid pw tr : Bytes) : Statement (.wifiSettings ssid pw tr) := fun h _ hw => by
  simp only [Instr.wellFormed, decide_eq_true_eq] at h
  exact payload_allowed (by simp only [List.length_append, length_field]; omega) hw

theorem getCurrentState (d : Bytes) : Statement (.getCurrentState d) := fun h _ hw => payload_allowed (of_decide_eq_true h) hw

theorem getDeviceInfo (d : Bytes) : Statement (.getDeviceInfo d) := fun h _ hw => payload_allowed (of_decide_eq_true h) hw

theorem getWifiNetworks (d : Bytes) : Statement (.getWifiNetworks d) := fun h _ hw => payload_allowed (of_decide_eq_true h) hw

theorem rpcReservedCommand (c : Byte) (d : Bytes) : Statement (.rpcReservedCommand c d) := fun h _ hw => by
  simp only [Instr.wellFormed, Bool.and_eq_true, decide_eq_true_eq] at h
  exact payload_allowed h.2 hw

theorem rpcMalformed (p : Bytes) : Statement (.rpcMalformed p) := fun h _ hw => by
  simp only [Instr.wellFormed, Bool.and_eq_true, decide_eq_true_eq] at h
  simp only [encode, Option.some.injEq] at hw
  subst hw
  exact h.1

theorem pPreamble (b : Byte) : Statement (.pPreamble b) := fun _ _ hw => byte_allowed (.inl rfl) hw

theorem pVersion (b : Byte) : Statement (.pVersion b) := fun _ _ hw => byte_allowed (.inl rfl) hw

theorem pType (b : Byte) : Statement (.pType b) := fun _ _ hw => byte_allowed (.inl rfl) hw

theorem pLength (b : Byte) : Statement (.pLength b) := fun _ _ hw => byte_allowed (.inl rfl) hw

theorem pPayload (b : Byte) : Statement (.pPayload b) := fun _ _ hw => byte_allowed (.inl rfl) hw

theorem pChecksum (b : Byte) : Statement (.pChecksum b) := fun _ _ hw => byte_allowed (.inl rfl) hw

theorem pChecksumMismatch (b : Byte) : Statement (.pChecksumMismatch b) := fun _ _ hw => byte_allowed (.inl rfl) hw

theorem pChecksumMatch (b : Byte) : Statement (.pChecksumMatch b) := fun _ _ hw => byte_allowed (.inl rfl) hw

theorem rxByte (b : Byte) : Statement (.rxByte b) := fun _ _ hw => byte_allowed (.inr rfl) hw

theorem tick : Statement (.tick) := fun _ _ hw => none_allowed hw

theorem reset : Statement (.reset) := fun _ _ hw => none_allowed hw

theorem decode (p : Bytes) (check : Bool) : Statement (.decode p check) := fun _ _ hw => none_allowed hw

theorem buildRpcResponse (tag : Byte) (fields : List Bytes) (ck : Bool) : Statement (.buildRpcResponse tag fields ck) := fun _ _ hw => none_allowed hw

theorem makeFrame (t : Byte) (p : Bytes) : Statement (.makeFrame t p) := fun _ _ hw => none_allowed hw

theorem emitState (v : Byte) : Statement (.emitState v) := fun _ _ hw => none_allowed hw

theorem emitError (e : Byte) : Statement (.emitError e) := fun _ _ hw => none_allowed hw

theorem emitRpcResponse (tag : Byte) (fields : List Bytes) : Statement (.emitRpcResponse tag fields) := fun _ _ hw => none_allowed hw

theorem emit (f : Bytes) : Statement (.emit f) := fun _ _ hw => none_allowed hw

theorem setState (v : Byte) : Statement (.setState v) := fun _ _ hw => none_allowed hw

theorem setError (e : Byte) : Statement (.setError e) := fun _ _ hw => none_allowed hw

theorem dispatch (cmd : Command) : Statement (.dispatch cmd) := fun _ _ hw => none_allowed hw

theorem dispatchUnknown (v : Verdict) : Statement (.dispatchUnknown v) := fun _ _ hw => none_allowed hw

theorem sendDeviceUrl (tag : Byte) : Statement (.sendDeviceUrl tag) := fun _ _ hw => none_allowed hw

theorem tryConnect (ssid : Bytes) (pw : Bytes) : Statement (.tryConnect ssid pw) := fun _ _ hw => none_allowed hw

theorem cmCycleStart : Statement (.cmCycleStart) := fun _ _ hw => none_allowed hw

theorem cmSuccess : Statement (.cmSuccess) := fun _ _ hw => none_allowed hw

theorem cmTimeout : Statement (.cmTimeout) := fun _ _ hw => none_allowed hw

theorem cmExhaustion : Statement (.cmExhaustion) := fun _ _ hw => none_allowed hw

theorem cmGiveUp : Statement (.cmGiveUp) := fun _ _ hw => none_allowed hw

theorem cmEdge : Statement (.cmEdge) := fun _ _ hw => none_allowed hw

end Sys2Proof.Laws.EncodingLength
end

