-- ==== Sys2Proof/Laws/Step.lean ====
section
/-! SUPPORT. What a step can do, said once, and what a tick and a reset can do. -/

namespace Sys2Proof.Machine

/-- What the edge detection of a tick can do (R199). -/
theorem tickEdge_cases (s : State) (c : Bool) :
    (c = s.lastConnected ∧ s.tickEdge c = s) ∨
    (c = true ∧ s.lastConnected = false ∧
      s.tickEdge c = { s with
        retriesDone := 0#8, failed := false, lastConnected := true,
        out := s.out ++ .obs (.connected s.cachedCredentials.1 s.cachedCredentials.2) ::
          s.cfg.connectedObservers.map fun h =>
            .deliver h (.connected s.cachedCredentials.1 s.cachedCredentials.2) }) ∨
    (c = false ∧ s.lastConnected = true ∧
      s.tickEdge c = { s with
        lastConnected := false,
        out := s.out ++ .obs .disconnected :: s.cfg.disconnectedObservers.map fun h => .deliver h .disconnected }) := by
  cases c <;> cases hl : s.lastConnected
  · exact .inl ⟨rfl, by simp [State.tickEdge, hl]⟩
  · refine .inr (.inr ⟨rfl, rfl, ?_⟩)
    simp [State.tickEdge, hl, State.edge, State.notify, Config.subscribers]
  · refine .inr (.inl ⟨rfl, rfl, ?_⟩)
    simp [State.tickEdge, hl, State.edge, State.notify, Config.subscribers]
  · exact .inl ⟨rfl, by simp [State.tickEdge, hl]⟩

/-- What a step can do: it is idle, the owner writes the configuration, or it runs the event at the head of the pending
inputs. -/
theorem step_cases (s : State) :
    (s.input = [] ∧ step s = .next s) ∨
    (∃ c rest, s.input = .configure c :: rest ∧ step s = ({ s with input := rest }).configure c) ∨
    (∃ b env rest, s.input = .event (.rxByte b) env :: rest ∧ step s = execRxByte b (s.take env rest)) ∨
    (∃ env rest, s.input = .event .tick env :: rest ∧
      step s = .next (((s.take env rest).tickPolicy env.netConnected env.now).tickEdge env.netConnected)) ∨
    (∃ env rest, s.input = .event .reset env :: rest ∧ step s = .next (s.take env rest).resetAll) := by
  cases hi : s.input with
  | nil => exact .inl ⟨rfl, by simp [step, hi]⟩
  | cons x rest =>
    cases x with
    | configure c => exact .inr (.inl ⟨c, rest, rfl, by simp [step, hi]⟩)
    | event e env =>
      cases e with
      | reset => exact .inr (.inr (.inr (.inr ⟨env, rest, rfl, by simp [step, hi, Event.instr, exec, execReset]⟩)))
      | rxByte b => exact .inr (.inr (.inl ⟨b, env, rest, rfl, by simp [step, hi, Event.instr, exec]⟩))
      | tick =>
        exact .inr (.inr (.inr (.inl ⟨env, rest, rfl, by simp [step, hi, Event.instr, exec, execTick]⟩)))

/-- When the owner's write of the configuration goes through (R253, R254), and what it writes. -/
theorem configure_next {s s' : State} {c : Config} (h : s.configure c = .next s') :
    s.started = false ∧ s' = { s with cfg := c, credAvailable := c.credAvailAtReset } := by
  unfold State.configure at h
  split at h
  · exact absurd h (by simp)
  · next h1 => exact ⟨by simpa using h1, (Host.Outcome.next.inj h).symm⟩

/-- One step more at the end of a run. -/
theorem runSteps_succ : ∀ (n : Nat) (s : State), runSteps (n + 1) s =
    match runSteps n s with
    | .next t => step t
    | .fault f => .fault f
    | .refused q => .refused q
  | 0, s => by
    simp only [runSteps]
    cases step s <;> rfl
  | n + 1, s => by
    rw [runSteps]
    conv => rhs; rw [runSteps]
    cases step s with
    | next t => simp only [runSteps_succ n t]
    | fault f => rfl
    | refused q => rfl

/-- Receiving bytes in two parts. -/
theorem receive_append : ∀ (a b : Bytes) (s : State), receive (a ++ b) s =
    match receive a s with
    | .next t => receive b t
    | .fault f => .fault f
    | .refused q => .refused q
  | [], _, _ => rfl
  | x :: a, b, s => by
    simp only [List.cons_append, receive]
    cases exec (.rxByte x) s with
    | next t => exact receive_append a b t
    | fault f => rfl
    | refused q => rfl

end Sys2Proof.Machine
end

