-- ==== Sys2Proof/Machine/Script.lean ====
section
/-! DEFINITION. The test notation of R97: lines, pseudo-instructions and their expansion, and the run of a list of lines.
It is the spec's own notation for what a host sends and expects; the block does not know it. -/

namespace Sys2Proof.Machine

/-- `ENV name = value` (R97): one query's answer from here on. -/
inductive EnvSetting where
  | now (t : Time)
  | netConnected (b : Bool)
  | tryConnect (b : Bool)
  | scan (l : List ScanEntry)
  | deviceUrl (u : Bytes)
  | storageSave (b : Bool)
  | storageLoad (r : Option (Bytes × Bytes))
deriving DecidableEq, Repr

/-- The pseudo-instructions of R97. -/
inductive Pseudo where
  | frame (t : Byte) (payload : Bytes)
  | rpc (c : Byte) (data : Bytes)
  | wifiSettings (ssid password : Bytes)
  | getCurrentState
  | getDeviceInfo
  | getWifiNetworks
deriving DecidableEq, Repr

/-- A line of a test program (R97). -/
inductive Line where
  | rx (bs : Bytes)
  | tick
  | env (e : EnvSetting)
  | expectTx (f : Bytes)
  | expectObs (e : ObsEvent)
  | expectNet (r : NetRequest)
  | expectSto (o : StoOp)
  | pseudo (p : Pseudo)
deriving DecidableEq, Repr

/-- The expansion of a pseudo-instruction to the bytes of one `RX` line (R97). DESIGN CHOICE (log entry 19): where a payload,
the data or a string is longer than the 255 bytes that its one-byte count can say, R97 is silent, and the count is the low
8 bits of the length. -/
def Pseudo.expand : Pseudo → Bytes
  | .frame t p => makeFrame t p
  | .rpc c d => makeFrame 0x03#8 (rpcPayload c d)
  | .wifiSettings s p => makeFrame 0x03#8 (rpcPayload 0x01#8 (field s ++ field p))
  | .getCurrentState => makeFrame 0x03#8 (rpcPayload 0x02#8 [])
  | .getDeviceInfo => makeFrame 0x03#8 (rpcPayload 0x03#8 [])
  | .getWifiNetworks => makeFrame 0x03#8 (rpcPayload 0x04#8 [])

/-- The answers from an `ENV` line on. -/
def EnvSetting.apply (e : Env) : EnvSetting → Env
  | .now t => { e with now := t }
  | .netConnected b => { e with netConnected := b }
  | .tryConnect b => { e with tryConnect := b }
  | .scan l => { e with scan := l }
  | .deviceUrl u => { e with deviceUrl := u }
  | .storageSave b => { e with saveOk := b }
  | .storageLoad r => { e with storageLoad := r }

/-- A run in progress: the machine, the answers in force, and how many entries of each log were expected so far. -/
structure Run where
  state : State
  env : Env
  seenTx : Nat
  seenObs : Nat
  seenNet : Nat
  seenSto : Nat
deriving DecidableEq, Repr

/-- Delivers events, one step each; `none` where a step stops. -/
def deliver : List Event → Env → State → Option State
  | [], _, s => some s
  | e :: r, env, s =>
    match step { s with input := .event e env :: s.input } with
    | .next s1 => deliver r env s1
    | .fault _ => none
    | .refused _ => none

/-- Runs one line; `none` where an expectation fails or a step stops (R97). -/
def Line.run (r : Run) : Line → Option Run
  | .rx bs => (deliver (bs.map .rxByte) r.env r.state).map fun s => { r with state := s }
  | .pseudo p => (deliver (p.expand.map .rxByte) r.env r.state).map fun s => { r with state := s }
  | .tick => (deliver [.tick] r.env r.state).map fun s => { r with state := s }
  | .env e => some { r with env := e.apply r.env }
  | .expectTx f => if r.state.tx[r.seenTx]? = some f then some { r with seenTx := r.seenTx + 1 } else none
  | .expectObs e => if r.state.obs[r.seenObs]? = some e then some { r with seenObs := r.seenObs + 1 } else none
  | .expectNet q => if r.state.net[r.seenNet]? = some q then some { r with seenNet := r.seenNet + 1 } else none
  | .expectSto o => if r.state.sto[r.seenSto]? = some o then some { r with seenSto := r.seenSto + 1 } else none

/-- Runs the lines of a program in order from a start state (R97). -/
def runLines : List Line → Run → Option Run
  | [], r => some r
  | l :: rest, r => (l.run r).bind (runLines rest)

/-- The start of a run from a stated state. -/
def Run.start (s : State) (env : Env) : Run :=
  { state := s, env := env, seenTx := 0, seenObs := 0, seenNet := 0, seenSto := 0 }

end Sys2Proof.Machine
end

