-- ==== Sys2Proof/Tests/Slice0.lean ====
section
/-! SUPPORT. Tests: the checks of WellFormed, words written out from spec/30_encoding.md, one step at a time from the
vectors of spec/95_test_vectors.md, and for every statement with hypotheses a state that meets them. -/

namespace Sys2Proof.Tests

open Sys2Proof.Machine

/-! ## Helpers -/

/-- Bytes from numbers. -/
def hx (l : List Nat) : Bytes := l.map (BitVec.ofNat 8)

/-- `n` zero bytes. -/
def zeros (n : Nat) : Bytes := List.replicate n 0x00#8

@[simp] theorem length_zeros (n : Nat) : (zeros n).length = n := List.length_replicate ..

/-- The next state, where there is one. -/
def after : Host.Outcome State Fault Refusal → Option State
  | .next s => some s
  | _ => none

/-- Why a decoder refused. -/
def errorOf : Except DecodeError (Instr × Bytes) → Option DecodeError
  | .error e => some e
  | .ok _ => none

/-- A view of the state after one instruction. -/
def run {α : Type} (i : Instr) (s : State) (view : State → α) : Option α := (after (exec i s)).map view

/-- The fault, where there is one. -/
def stop : Host.Outcome State Fault Refusal → Option Fault
  | .fault f => some f
  | _ => none

/-- "abcd". -/
def abcd : Bytes := hx [0x61, 0x62, 0x63, 0x64]

/-- "password". -/
def password : Bytes := hx [0x70, 0x61, 0x73, 0x73, 0x77, 0x6F, 0x72, 0x64]

/-- "http://192.168.1.10". -/
def url : Bytes := hx [0x68, 0x74, 0x74, 0x70, 0x3A, 0x2F, 0x2F, 0x31, 0x39, 0x32, 0x2E, 0x31, 0x36, 0x38, 0x2E, 0x31,
  0x2E, 0x31, 0x30]

/-- The test configuration of spec/95_test_vectors.md. -/
def testConfig : Config := { resetConfig with
  fwName := hx [0x49, 0x6D, 0x70, 0x72, 0x6F, 0x76, 0x57, 0x69, 0x46, 0x69, 0x4C, 0x69, 0x62]
  fwVersion := hx [0x31, 0x2E, 0x30, 0x2E, 0x30]
  chipFamily := hx [0x45, 0x53, 0x50, 0x33, 0x32]
  devName := hx [0x4D, 0x79, 0x20, 0x44, 0x65, 0x76, 0x69, 0x63, 0x65] }

/-- Environment answers: time, connectivity, the answer of an attempt; the test URL. -/
def answers (now : Time) (connected try_ : Bool) : Env :=
  { Env.placeholder with now := now, netConnected := connected, tryConnect := try_, deviceUrl := url }

/-- The reset state under the test configuration and the given answers. -/
def start (now : Time) (connected try_ : Bool) : State :=
  { State.reset with cfg := testConfig, env := answers now connected try_ }

/-- A state whose candidate frame is `bs`. -/
def having (s : State) (bs : Bytes) : State :=
  { s with pos := BitVec.ofNat 9 bs.length, buf := Memory.writeList [] 0 bs, csum := sum8 bs }

/-- The header of a frame, up to the length byte. -/
def header (t l : Byte) : Bytes := preamble ++ [version, t, l]

/-- A state with cached credentials, the gate open. -/
def cached (s : State) : State :=
  { s with credSsid := abcd, credPassword := password, credValid := true, credAvailable := true }

/-- A state in which an attempt runs, with the deadline 10000 (after vector V-M4). -/
def joining (s : State) : State := { cached s with cmPhase := .joining, attemptDeadline := 10000#32 }

/-- A state after retry exhaustion. -/
def exhausted (s : State) : State := { cached s with failed := true, retriesDone := 3#8 }

/-- The parser registers and the logs of frames. -/
def parser (s : State) : Nat × Byte × List Bytes := (s.pos.toNat, s.csum, s.tx)

/-! ## WellFormed: each check refuses an ill-formed term -/

theorem test_wf_currentState_too_long :
    Instr.wellFormed (.currentState (zeros 256)) = false := by
  simp [Instr.wellFormed]

theorem test_wf_errorState_too_long : Instr.wellFormed (.errorState (zeros 256)) = false := by simp [Instr.wellFormed]

theorem test_wf_rpcCommand_too_long : Instr.wellFormed (.rpcCommand (zeros 256)) = false := by simp [Instr.wellFormed]

theorem test_wf_rpcResponse_too_long :
    Instr.wellFormed (.rpcResponse (zeros 256)) = false := by
  simp [Instr.wellFormed]

theorem test_wf_frameReservedType_assigned : Instr.wellFormed (.frameReservedType 0x03#8 []) = false := by decide

theorem test_wf_frameReservedType_too_long :
    Instr.wellFormed (.frameReservedType 0x05#8 (zeros 256)) = false := by
  simp [Instr.wellFormed]

theorem test_wf_wifiSettings_too_long :
    Instr.wellFormed (.wifiSettings (zeros 251) [0x61#8] []) = false := by
  simp [Instr.wellFormed]

theorem test_wf_getCurrentState_too_long :
    Instr.wellFormed (.getCurrentState (zeros 254)) = false := by
  simp [Instr.wellFormed]

theorem test_wf_getDeviceInfo_too_long :
    Instr.wellFormed (.getDeviceInfo (zeros 254)) = false := by
  simp [Instr.wellFormed]

theorem test_wf_getWifiNetworks_too_long :
    Instr.wellFormed (.getWifiNetworks (zeros 254)) = false := by
  simp [Instr.wellFormed]

theorem test_wf_rpcReservedCommand_assigned : Instr.wellFormed (.rpcReservedCommand 0x01#8 []) = false := by decide

theorem test_wf_rpcReservedCommand_too_long :
    Instr.wellFormed (.rpcReservedCommand 0x05#8 (zeros 254)) = false := by
  simp [Instr.wellFormed]

theorem test_wf_rpcMalformed_not_malformed : Instr.wellFormed (.rpcMalformed (hx [0x02, 0x00])) = false := by decide

theorem test_wf_rpcMalformed_two_fields :
    Instr.wellFormed (.rpcMalformed (hx [0x01, 0x02, 0x00, 0x00])) = false := by
  decide

theorem test_wf_rpcMalformed_too_long :
    Instr.wellFormed (.rpcMalformed (zeros 256)) = false := by
  simp [Instr.wellFormed]

theorem test_wf_makeFrame_too_long :
    Instr.wellFormed (.makeFrame 0x01#8 (zeros 256)) = false := by
  simp [Instr.wellFormed]

theorem test_wf_emitState_illegal : Instr.wellFormed (.emitState 0x01#8) = false := by decide

theorem test_wf_setState_illegal : Instr.wellFormed (.setState 0x05#8) = false := by decide

theorem test_wf_emitError_illegal : Instr.wellFormed (.emitError 0x05#8) = false := by decide

theorem test_wf_setError_illegal : Instr.wellFormed (.setError 0x05#8) = false := by decide

theorem test_wf_dispatch_ssid_too_long :
    Instr.wellFormed (.dispatch (.wifiSettings (zeros 256) [])) = false := by
  simp [Instr.wellFormed]

theorem test_wf_dispatch_password_too_long :
    Instr.wellFormed (.dispatch (.wifiSettings [] (zeros 256))) = false := by
  simp [Instr.wellFormed]

theorem test_wf_tryConnect_ssid_too_long :
    Instr.wellFormed (.tryConnect (zeros 256) []) = false := by
  simp [Instr.wellFormed]

theorem test_wf_tryConnect_password_too_long :
    Instr.wellFormed (.tryConnect [] (zeros 256)) = false := by
  simp [Instr.wellFormed]

/-! ## Decoding: words written out from the encodings of spec/30_encoding.md -/

/-- V-E5: `CURRENT_STATE` with state 04. -/
theorem test_decode_currentState :
    (decodeFrame (hx [0x49, 0x4D, 0x50, 0x52, 0x4F, 0x56, 0x01, 0x01, 0x01, 0x04, 0xE4])).toOption = some
      (.currentState (hx [0x04]), []) := by
  decide

/-- V-E9: `ERROR_STATE` with code 03. -/
theorem test_decode_errorState :
    (decodeFrame (hx [0x49, 0x4D, 0x50, 0x52, 0x4F, 0x56, 0x01, 0x02, 0x01, 0x03, 0xE4])).toOption = some
      (.errorState (hx [0x03]), []) := by
  decide

/-- V-E11: `RPC_COMMAND` with the payload of `GetCurrentState`. -/
theorem test_decode_rpcCommand :
    (decodeFrame (hx [0x49, 0x4D, 0x50, 0x52, 0x4F, 0x56, 0x01, 0x03, 0x02, 0x02, 0x00, 0xE5])).toOption = some
      (.rpcCommand (hx [0x02, 0x00]), []) := by
  decide

/-- V-E18: `RPC_RESPONSE`, the end of a network list. -/
theorem test_decode_rpcResponse :
    (decodeFrame (hx [0x49, 0x4D, 0x50, 0x52, 0x4F, 0x56, 0x01, 0x04, 0x02, 0x04, 0x00, 0xE8])).toOption = some
      (.rpcResponse (hx [0x04, 0x00]), []) := by
  decide

/-- V-P9: the unassigned type 9. -/
theorem test_decode_frameReservedType :
    (decodeFrame (hx [0x49, 0x4D, 0x50, 0x52, 0x4F, 0x56, 0x01, 0x09, 0x03, 0x01, 0x02, 0x03, 0xF0])).toOption = some
      (.frameReservedType 0x09#8 (hx [0x01, 0x02, 0x03]), []) := by
  decide

/-- V-E15 with two more bytes behind it. -/
theorem test_decode_leaves_the_rest :
    (decodeFrame (hx [0x49, 0x4D, 0x50, 0x52, 0x4F, 0x56, 0x01, 0x00, 0x00, 0xDE, 0x49, 0x4D])).toOption = some
      (.frameReservedType 0x00#8 [], hx [0x49, 0x4D]) := by
  decide

/-- V-P3: the first byte is wrong. -/
theorem test_decode_bad_preamble :
    errorOf (decodeFrame (hx [0x58, 0x4D, 0x50, 0x52, 0x4F, 0x56, 0x01, 0x03, 0x02, 0x02, 0x00, 0xE5])) = some
      .badPreamble := by
  decide

/-- V-P5: version 2. -/
theorem test_decode_bad_version :
    errorOf (decodeFrame (hx [0x49, 0x4D, 0x50, 0x52, 0x4F, 0x56, 0x02, 0x03, 0x02, 0x02, 0x00, 0xE6])) = some
      .badVersion := by
  decide

/-- V-P14: the frame is not complete. -/
theorem test_decode_truncated :
    errorOf (decodeFrame (hx [0x49, 0x4D, 0x50, 0x52, 0x4F, 0x56, 0x01, 0x03, 0x02, 0x02, 0x00])) = some .truncated
      := by
  decide

/-- V-P6: the checksum is off by one. -/
theorem test_decode_bad_checksum :
    errorOf (decodeFrame (hx [0x49, 0x4D, 0x50, 0x52, 0x4F, 0x56, 0x01, 0x03, 0x02, 0x02, 0x00, 0xE4])) = some
      .badChecksum := by
  decide

/-- R96: a procedure has no pattern. -/
theorem test_decode_no_pattern : errorOf (decodeWords .op (hx [0x01])) = some .noPattern := by decide

/-- V-C17: two strings and a trailing byte. -/
theorem test_decode_wifiSettings :
    decodeRpc (hx [0x01, 0x05, 0x01, 0x61, 0x01, 0x62, 0xEE]) = .wifiSettings (hx [0x61]) (hx [0x62]) (hx [0xEE]) :=
      by
  decide

/-- V-C18: data that is ignored. -/
theorem test_decode_getCurrentState :
    decodeRpc (hx [0x02, 0x02, 0x09, 0x09]) = .getCurrentState (hx [0x09, 0x09]) := by
  decide

/-- V-C6. -/
theorem test_decode_getDeviceInfo : decodeRpc (hx [0x03, 0x00]) = .getDeviceInfo [] := by decide

/-- V-C7. -/
theorem test_decode_getWifiNetworks : decodeRpc (hx [0x04, 0x00]) = .getWifiNetworks [] := by decide

/-- V-C8. -/
theorem test_decode_rpcReservedCommand : decodeRpc (hx [0xFF, 0x00]) = .rpcReservedCommand 0xFF#8 [] := by decide

/-- V-C3: the data length byte is wrong. -/
theorem test_decode_rpcMalformed_length : decodeRpc (hx [0x02, 0x01]) = .rpcMalformed (hx [0x02, 0x01]) := by decide

/-- V-C11: the ssid length overruns. -/
theorem test_decode_rpcMalformed_fields :
    decodeRpc (hx [0x01, 0x03, 0x05, 0x61, 0x62]) = .rpcMalformed (hx [0x01, 0x03, 0x05, 0x61, 0x62]) := by
  decide

-- The classes of V-P1 (L = 2) and the two paths at the checksum position.
theorem test_decode_pPreamble : decodeStep 0 0x02#8 0x49#8 = some (.pPreamble 0x49#8) := by decide

theorem test_decode_pVersion : decodeStep 6 0x02#8 0x01#8 = some (.pVersion 0x01#8) := by decide

theorem test_decode_pType : decodeStep 7 0x02#8 0x03#8 = some (.pType 0x03#8) := by decide

theorem test_decode_pLength : decodeStep 8 0x02#8 0x02#8 = some (.pLength 0x02#8) := by decide

theorem test_decode_pPayload : decodeStep 10 0x02#8 0x00#8 = some (.pPayload 0x00#8) := by decide

theorem test_decode_pChecksum : decodeStep 11 0x02#8 0xE5#8 = some (.pChecksum 0xE5#8) := by decide

theorem test_decode_pChecksumMatch : decodeChecksumPath 0xE5#8 0xE5#8 = .pChecksumMatch 0xE5#8 := by decide

theorem test_decode_pChecksumMismatch : decodeChecksumPath 0xE5#8 0xE4#8 = .pChecksumMismatch 0xE4#8 := by decide

-- The opcode table's words: the first byte in bits 7..0.
theorem test_table_word_frame : decodeTableWord 64 0x0301564F52504D49 = some (.rpcCommand []) := by decide

theorem test_table_word_rpc : decodeTableWord 8 0x01 = some (.wifiSettings [] [] []) := by decide

theorem test_table_word_refused : decodeTableWord 64 0 = none := by decide

/-- The next step runs the placed instruction: the reserved command 05 raises `UnknownRpc` (V-S10). -/
theorem test_table_word_runs :
    ((after (step (State.reset.withFetchWord 8 0x05))).map fun t => (t.errState, t.tx)) =
    some (0x02#8, [errorFrame 0x02#8]) := by
  decide

/-- R98: the worked encoding of `WIFI_SETTINGS "abcd" "password"`. -/
theorem test_expand_wifiSettings :
    Pseudo.expand (.wifiSettings abcd password) = (hx [0x49, 0x4D, 0x50, 0x52, 0x4F, 0x56, 0x01, 0x03, 0x10, 0x01,
      0x0E, 0x04, 0x61, 0x62, 0x63, 0x64, 0x08, 0x70, 0x61, 0x73, 0x73, 0x77, 0x6F, 0x72, 0x64, 0x09]) := by
  decide

/-! ## The Frame Parser (V-P) -/

/-- V-P1: the sixth preamble byte. -/
theorem test_pPreamble :
    run (.pPreamble 0x56#8) (having (start 500#32 false false) (hx [0x49, 0x4D, 0x50, 0x52, 0x4F])) parser =
    some (6, 0xDD#8, []) := by
  decide

/-- V-P4: a second `49` at position 1. -/
theorem test_pPreamble_reject :
    run (.pPreamble 0x49#8) (having (start 500#32 false false) (hx [0x49])) parser =
    some (0, 0x00#8, []) := by
  decide

/-- V-P1. -/
theorem test_pVersion :
    run (.pVersion 0x01#8) (having (start 500#32 false false) preamble) parser =
    some (7, 0xDE#8, []) := by
  decide

/-- V-P5. -/
theorem test_pVersion_reject :
    run (.pVersion 0x02#8) (having (start 500#32 false false) preamble) parser =
    some (0, 0x00#8, []) := by
  decide

/-- V-P1. -/
theorem test_pType :
    run (.pType 0x03#8) (having (start 500#32 false false) (preamble ++ [version])) parser =
    some (8, 0xE1#8, []) := by
  decide

/-- V-P1. -/
theorem test_pLength :
    run (.pLength 0x02#8) (having (start 500#32 false false) (preamble ++ [version, 0x03#8])) parser =
    some (9, 0xE3#8, []) := by
  decide

/-- V-P1. -/
theorem test_pPayload :
    run (.pPayload 0x02#8) (having (start 500#32 false false) (header 0x03#8 0x02#8)) parser =
    some (10, 0xE5#8, []) := by
  decide

/-- V-P1: the last byte. -/
theorem test_pChecksum :
    run (.pChecksum 0xE5#8) (having (start 500#32 false false) (header 0x03#8 0x02#8 ++ hx [0x02, 0x00]))
      (fun t => (parser t, t.inactDeadline, t.inactValid, t.provState)) =
    some ((0, 0x00#8, [stateFrame 0x02#8]), 1500#32, true, 0x02#8) := by
  decide

/-- V-P1: the last byte. -/
theorem test_pChecksumMatch :
    run (.pChecksumMatch 0xE5#8) (having (start 500#32 false false) (header 0x03#8 0x02#8 ++ hx [0x02, 0x00]))
      (fun t => (parser t, t.inactDeadline, t.inactValid, t.provState)) =
    some ((0, 0x00#8, [stateFrame 0x02#8]), 1500#32, true, 0x02#8) := by
  decide

/-- V-P6. -/
theorem test_pChecksumMismatch :
    run (.pChecksumMismatch 0xE4#8) (having (start 500#32 false false) (header 0x03#8 0x02#8 ++ hx [0x02, 0x00]))
      (fun t => (parser t, t.inactValid, t.errState)) =
    some ((0, 0x00#8, [(hx [0x49, 0x4D, 0x50, 0x52, 0x4F, 0x56, 0x01, 0x02, 0x01, 0x01, 0xE2])]), false, 0x01#8) := by
  decide

/-- V-P2. -/
theorem test_rxByte_reject :
    run (.rxByte 0x51#8) (having (start 500#32 false false) (hx [0x49, 0x4D])) parser =
    some (0, 0x00#8, []) := by
  decide

/-- V-P10: the frame completes at position 9. -/
theorem test_rxByte_type_zero :
    run (.rxByte 0xDE#8) (having (start 500#32 false false) (header 0x00#8 0x00#8))
      (fun t => (parser t, t.inactDeadline, t.inactValid)) =
    some ((0, 0x00#8, []), 1500#32, true) := by
  decide

/-! ## Frames and commands (V-S, V-P) -/

/-- V-P8 at the time of V-X3: only the deadline changes, and it wraps. -/
theorem test_currentState :
    run (.currentState (hx [0x04])) (start 0xFFFFFF00#32 false false)
      (fun t => (t.inactDeadline, t.inactValid, t.tx)) =
    some (0x000002E8#32, true, []) := by
  decide

/-- P8 at the time of V-X3: only the deadline changes, and it wraps. -/
theorem test_errorState :
    run (.errorState (hx [0x03])) (start 0xFFFFFF00#32 false false) (fun t => (t.inactDeadline, t.inactValid, t.tx)) =
    some (0x000002E8#32, true, []) := by
  decide

/-- P8 at the time of V-X3: only the deadline changes, and it wraps. -/
theorem test_rpcResponse :
    run (.rpcResponse (hx [0x02, 0x00])) (start 0xFFFFFF00#32 false false)
      (fun t => (t.inactDeadline, t.inactValid, t.tx)) =
    some (0x000002E8#32, true, []) := by
  decide

/-- V-P9 at the time of V-X3: only the deadline changes, and it wraps. -/
theorem test_frameReservedType :
    run (.frameReservedType 0x09#8 (hx [0x01, 0x02, 0x03])) (start 0xFFFFFF00#32 false false)
      (fun t => (t.inactDeadline, t.inactValid, t.tx)) =
    some (0x000002E8#32, true, []) := by
  decide

/-- V-P11: an empty payload is `Unknown`. -/
theorem test_rpcCommand :
    run (.rpcCommand []) (start 500#32 false false) (fun t => (t.tx, t.errState, t.inactDeadline)) =
    some ([(hx [0x49, 0x4D, 0x50, 0x52, 0x4F, 0x56, 0x01, 0x02, 0x01, 0x02, 0xE3])], 0x02#8, 1500#32) := by
  decide

/-- V-S3. -/
theorem test_wifiSettings_success :
    run (.wifiSettings abcd password []) (start 0#32 false true) (fun t => (t.tx, t.net, t.sto, t.obs)) =
    some ([(hx [0x49, 0x4D, 0x50, 0x52, 0x4F, 0x56, 0x01, 0x01, 0x01, 0x03, 0xE3]),
      (hx [0x49, 0x4D, 0x50, 0x52, 0x4F, 0x56, 0x01, 0x01, 0x01, 0x04, 0xE4]),
      (hx [0x49, 0x4D, 0x50, 0x52, 0x4F, 0x56, 0x01, 0x02, 0x01, 0x00, 0xE1]),
      (hx [0x49, 0x4D, 0x50, 0x52, 0x4F, 0x56, 0x01, 0x04, 0x16, 0x01, 0x14, 0x13, 0x68, 0x74, 0x74, 0x70, 0x3A,
      0x2F, 0x2F, 0x31, 0x39, 0x32, 0x2E, 0x31, 0x36, 0x38, 0x2E, 0x31, 0x2E, 0x31, 0x30, 0xCF])],
      [.tryConnect abcd password], [.save abcd password], [.connected abcd password]) := by
  decide

/-- V-S4. -/
theorem test_wifiSettings_failure :
    run (.wifiSettings abcd password []) (start 0#32 false false) (fun t => (t.tx, t.provState, t.errState, t.sto)) =
    some ([(hx [0x49, 0x4D, 0x50, 0x52, 0x4F, 0x56, 0x01, 0x01, 0x01, 0x03, 0xE3]),
      (hx [0x49, 0x4D, 0x50, 0x52, 0x4F, 0x56, 0x01, 0x01, 0x01, 0x00, 0xE0]),
      (hx [0x49, 0x4D, 0x50, 0x52, 0x4F, 0x56, 0x01, 0x02, 0x01, 0x03, 0xE4])],
      0x00#8, 0x03#8, []) := by
  decide

/-- V-S2. -/
theorem test_getCurrentState_connected :
    run (.getCurrentState []) (start 0#32 true false) (fun t => (t.tx, t.provState)) =
    some ([(hx [0x49, 0x4D, 0x50, 0x52, 0x4F, 0x56, 0x01, 0x01, 0x01, 0x04, 0xE4]),
      (hx [0x49, 0x4D, 0x50, 0x52, 0x4F, 0x56, 0x01, 0x04, 0x16, 0x02, 0x14, 0x13, 0x68, 0x74, 0x74, 0x70, 0x3A,
      0x2F, 0x2F, 0x31, 0x39, 0x32, 0x2E, 0x31, 0x36, 0x38, 0x2E, 0x31, 0x2E, 0x31, 0x30, 0xD0])],
      0x04#8) := by
  decide

/-- V-S13. -/
theorem test_getCurrentState_not_connected :
    run (.getCurrentState (hx [0x09, 0x09])) (start 500#32 false false) (fun t => (t.tx, t.provState)) =
    some ([(hx [0x49, 0x4D, 0x50, 0x52, 0x4F, 0x56, 0x01, 0x01, 0x01, 0x02, 0xE2])], 0x02#8) := by
  decide

set_option maxRecDepth 8000 in
/-- V-S6. -/
theorem test_getDeviceInfo :
    run (.getDeviceInfo []) (start 500#32 false false) State.tx =
    some [(hx [0x49, 0x4D, 0x50, 0x52, 0x4F, 0x56, 0x01, 0x04, 0x26, 0x03, 0x24, 0x0D, 0x49, 0x6D, 0x70, 0x72, 0x6F,
      0x76, 0x57, 0x69, 0x46, 0x69, 0x4C, 0x69, 0x62, 0x05, 0x31, 0x2E, 0x30, 0x2E, 0x30, 0x05, 0x45, 0x53, 0x50,
      0x33, 0x32, 0x09, 0x4D, 0x79, 0x20, 0x44, 0x65, 0x76, 0x69, 0x63, 0x65, 0xC2])] := by
  decide

/-- The scan of V-S7: ("HomeNet", -52, false), ("Cafe", -71, true). -/
def scan : List ScanEntry :=
  [{ ssid := hx [0x48, 0x6F, 0x6D, 0x65, 0x4E, 0x65, 0x74], rssi := 0xCC#8, isOpen := false },
   { ssid := hx [0x43, 0x61, 0x66, 0x65], rssi := 0xB9#8, isOpen := true }]

/-- V-S7. -/
theorem test_getWifiNetworks :
    run (.getWifiNetworks []) { start 0#32 false false with env := { answers 0#32 false false with scan := scan } }
      State.tx =
    some [(hx [0x49, 0x4D, 0x50, 0x52, 0x4F, 0x56, 0x01, 0x04, 0x12, 0x04, 0x10, 0x07, 0x48, 0x6F, 0x6D, 0x65, 0x4E,
      0x65, 0x74, 0x03, 0x2D, 0x35, 0x32, 0x03, 0x59, 0x45, 0x53, 0x4A]),
      (hx [0x49, 0x4D, 0x50, 0x52, 0x4F, 0x56, 0x01, 0x04, 0x0E, 0x04, 0x0C, 0x04, 0x43, 0x61, 0x66, 0x65, 0x03,
      0x2D, 0x37, 0x31, 0x02, 0x4E, 0x4F, 0xAA]),
      (hx [0x49, 0x4D, 0x50, 0x52, 0x4F, 0x56, 0x01, 0x04, 0x02, 0x04, 0x00, 0xE8])] := by
  decide

set_option maxRecDepth 8000 in
/-- V-X7: the long network is withheld. -/
theorem test_getWifiNetworks_too_long :
    run (.getWifiNetworks []) { start 0#32 false false with
      env := { answers 0#32 false false with scan := [{ ssid := zeros 250, rssi := 0xCC#8, isOpen := false }] } }
      (fun t => (t.tx, t.faultEncode)) =
    some ([(hx [0x49, 0x4D, 0x50, 0x52, 0x4F, 0x56, 0x01, 0x04, 0x02, 0x04, 0x00, 0xE8])], true) := by
  decide

/-- V-S10. -/
theorem test_rpcReservedCommand :
    run (.rpcReservedCommand 0x05#8 []) { start 0#32 false false with provState := 0x04#8 }
      (fun t => (t.tx, t.provState, t.errState)) =
    some ([(hx [0x49, 0x4D, 0x50, 0x52, 0x4F, 0x56, 0x01, 0x02, 0x01, 0x02, 0xE3])], 0x04#8, 0x02#8) := by
  decide

/-- V-S11. -/
theorem test_rpcMalformed :
    run (.rpcMalformed (hx [0x02, 0x01])) (start 500#32 false false) (fun t => (t.tx, t.errState)) =
    some ([(hx [0x49, 0x4D, 0x50, 0x52, 0x4F, 0x56, 0x01, 0x02, 0x01, 0x02, 0xE3])], 0x02#8) := by
  decide

/-! ## The codec and the emitter (V-C, V-E) -/

/-- V-C20. -/
theorem test_decode_op_checksum :
    run (.decode (hx [0x02, 0x00, 0x03]) true) (start 500#32 false false) State.answer =
    some (.command .badChecksum) := by
  decide

/-- V-C21: the length check comes first. -/
theorem test_decode_op_length_first :
    run (.decode (hx [0x02, 0x01, 0x03]) true) (start 500#32 false false) State.answer =
    some (.command .unknown) := by
  decide

/-- V-C26. -/
theorem test_buildRpcResponse :
    run (.buildRpcResponse 0x01#8 [abcd, password] true) (start 500#32 false false) State.answer =
    some (.bytes (hx [0x01, 0x0E, 0x04, 0x61, 0x62, 0x63, 0x64, 0x08, 0x70, 0x61, 0x73, 0x73, 0x77, 0x6F, 0x72, 0x64,
      0x18])) := by
  decide

set_option maxRecDepth 8000 in
/-- V-C29. -/
theorem test_buildRpcResponse_refused :
    run (.buildRpcResponse 0x01#8 [zeros 200, zeros 54] false) (start 500#32 false false)
      (fun t => (t.answer, t.faultEncode)) =
    some (.refused, true) := by
  decide

/-- V-E16: the sum wraps. -/
theorem test_makeFrame :
    run (.makeFrame 0x01#8 (hx [0xFF, 0xFF, 0xFF])) (start 500#32 false false) State.answer =
    some (.bytes (hx [0x49, 0x4D, 0x50, 0x52, 0x4F, 0x56, 0x01, 0x01, 0x03, 0xFF, 0xFF, 0xFF, 0xDF])) := by
  decide

set_option maxRecDepth 8000 in
/-- R33: a frame payload longer than 255 bytes. -/
theorem test_makeFrame_too_long :
    run (.makeFrame 0x01#8 (zeros 256)) (start 500#32 false false) (fun t => (t.answer, t.faultEncode)) =
    some (.refused, true) := by
  decide

/-- V-E4. -/
theorem test_emitState :
    run (.emitState 0x03#8) (start 500#32 false false) State.tx =
    some [(hx [0x49, 0x4D, 0x50, 0x52, 0x4F, 0x56, 0x01, 0x01, 0x01, 0x03, 0xE3])] := by
  decide

/-- V-E10: the emitter writes no register. -/
theorem test_emitError :
    run (.emitError 0x04#8) (start 500#32 false false) (fun t => (t.tx, t.errState)) =
    some ([(hx [0x49, 0x4D, 0x50, 0x52, 0x4F, 0x56, 0x01, 0x02, 0x01, 0x04, 0xE5])], 0x00#8) := by
  decide

/-- V-E19. -/
theorem test_emitRpcResponse :
    run (.emitRpcResponse 0x02#8 [[]]) (start 500#32 false false) State.tx =
    some [(hx [0x49, 0x4D, 0x50, 0x52, 0x4F, 0x56, 0x01, 0x04, 0x03, 0x02, 0x01, 0x00, 0xE8])] := by
  decide

set_option maxRecDepth 8000 in
/-- V-C32. -/
theorem test_emitRpcResponse_too_long :
    run (.emitRpcResponse 0x02#8 [zeros 253]) (start 500#32 false false) (fun t => (t.tx, t.faultEncode)) =
    some ([], true) := by
  decide

/-- R154. -/
theorem test_emit : run (.emit (hx [0x49])) (start 500#32 false false) State.tx =
    some [hx [0x49]] := by decide

/-! ## The procedures of the RPC state machine -/

/-- A state in which the error observers are told of wire errors, with one of them. -/
def notifying : State :=
  { start 0#32 false false with cfg := { testConfig with obsOnWireError := true, errorObservers := [7] } }

/-- R166, V-E3. -/
theorem test_setState :
    run (.setState 0x02#8) (start 500#32 false false) (fun t => (t.provState, t.tx)) =
    some (0x02#8, [(hx [0x49, 0x4D, 0x50, 0x52, 0x4F, 0x56, 0x01, 0x01, 0x01, 0x02, 0xE2])]) := by
  decide

/-- R222, V-E9. -/
theorem test_setError :
    run (.setError 0x03#8) (start 500#32 false false) (fun t => (t.errState, t.tx, t.obs)) =
    some (0x03#8, [(hx [0x49, 0x4D, 0x50, 0x52, 0x4F, 0x56, 0x01, 0x02, 0x01, 0x03, 0xE4])], []) := by
  decide

/-- R222 with the parameter `OBS_ON_WIRE_ERROR` set. -/
theorem test_setError_notifies :
    run (.setError 0x03#8) notifying (fun t => (t.obs, t.delivered)) =
    some ([.error 3], [(7, .error 3)]) := by
  decide

/-- V-S5: an empty ssid. -/
theorem test_dispatch :
    run (.dispatch (.wifiSettings [] password)) { start 0#32 false true with provState := 0x02#8 }
      (fun t => (t.tx, t.provState, t.net)) =
    some ([(hx [0x49, 0x4D, 0x50, 0x52, 0x4F, 0x56, 0x01, 0x02, 0x01, 0x01, 0xE2])], 0x02#8, []) := by
  decide

/-- R176. -/
theorem test_dispatchUnknown :
    run (.dispatchUnknown .badChecksum) (start 500#32 false false) (fun t => (t.tx, t.errState)) =
    some ([(hx [0x49, 0x4D, 0x50, 0x52, 0x4F, 0x56, 0x01, 0x02, 0x01, 0x02, 0xE3])], 0x02#8) := by
  decide

/-- V-S3's last frame. -/
theorem test_sendDeviceUrl :
    run (.sendDeviceUrl 0x01#8) (start 500#32 false false) State.tx =
    some [(hx [0x49, 0x4D, 0x50, 0x52, 0x4F, 0x56, 0x01, 0x04, 0x16, 0x01, 0x14, 0x13, 0x68, 0x74, 0x74, 0x70, 0x3A,
      0x2F, 0x2F, 0x31, 0x39, 0x32, 0x2E, 0x31, 0x36, 0x38, 0x2E, 0x31, 0x2E, 0x31, 0x30, 0xCF])] := by
  decide

/-- R181. -/
theorem test_tryConnect :
    run (.tryConnect abcd password) (start 0#32 false true) (fun t => (t.net, t.answer, t.tx)) =
    some ([.tryConnect abcd password], .flag true, []) := by
  decide

/-! ## The Connection Manager (V-M) and reset -/

/-- A state with outputs, an error, cached credentials and a candidate frame, before a reset. -/
def busy : State :=
  let s := exhausted (having (start 5#32 true true) preamble)
  { s with out := [.tx [], .sto .load], errState := 0x02#8 }

/-- A tick at time 0, not connected, with the gate open and credentials in the storage (V-M4). -/
def loading : State :=
  { start 0#32 false false with
    credAvailable := true, env := { answers 0#32 false false with storageLoad := some (abcd, password) } }

/-- V-M4. -/
theorem test_cmCycleStart :
    run (.cmCycleStart) loading (fun t => (t.sto, t.net, t.cmPhase, t.attemptDeadline, t.credValid)) =
    some ([.load], [.beginConnect abcd password], .joining, 10000#32, true) := by
  decide

/-- V-M13: the deadline wraps; cached credentials are not loaded again. -/
theorem test_cmCycleStart_wraps :
    run (.cmCycleStart) (cached (start 0xFFFFF000#32 false false)) (fun t => (t.sto, t.attemptDeadline)) =
    some ([], 0x00001710#32) := by
  decide

/-- V-M8. -/
theorem test_cmSuccess :
    run (.cmSuccess) (joining (start 20000#32 true false)) (fun t => (t.obs, t.retriesDone, t.lastConnected,
      t.cmPhase)) =
    some ([.connected abcd password], 0#8, true, .idle) := by
  decide

/-- V-M6. -/
theorem test_cmTimeout :
    run (.cmTimeout) (joining (start 10000#32 false false)) (fun t => (t.retriesDone, t.cmPhase, t.obs)) =
    some (1#8, .idle, []) := by
  decide

/-- V-M14. -/
theorem test_cmTimeout_last :
    run (.cmTimeout) { joining (start 10000#32 false false) with retriesDone := 2#8 }
      (fun t => (t.retriesDone, t.failed, t.cmPhase, t.obs)) =
    some (3#8, true, .idle, [.error 3]) := by
  decide

/-- R197. -/
theorem test_cmExhaustion :
    run (.cmExhaustion) { start 0#32 false false with retriesDone := 3#8 } (fun t => (t.failed, t.obs)) =
    some (true, [.error 3]) := by
  decide

/-- V-M9. -/
theorem test_cmGiveUp :
    run (.cmGiveUp) (exhausted (start 0#32 false false)) (fun t => (t.obs, t.net)) =
    some ([.error testConfig.errConnectGiveup], []) := by
  decide

/-- V-M2. -/
theorem test_cmEdge :
    run (.cmEdge) (start 0#32 true false) (fun t => (t.obs, t.lastConnected)) =
    some ([.connected [] []], true) := by
  decide

/-- V-M10: the policy first, then the edge. -/
theorem test_tick_recovers :
    run (.tick) (exhausted (start 0#32 true false)) (fun t => (t.obs, t.failed, t.retriesDone, t.lastConnected)) =
    some ([.error testConfig.errConnectGiveup, .connected abcd password], false, 0#8, true) := by
  decide

/-- V-M11. -/
theorem test_tick_drops :
    run (.tick) { cached (start 5000#32 false false) with lastConnected := true }
      (fun t => (t.net, t.attemptDeadline, t.obs, t.lastConnected)) =
    some ([.beginConnect abcd password], 15000#32, [.disconnected], false) := by
  decide

/-- R250: the registers and the logs; the configuration stays. -/
theorem test_reset :
    run (.reset) busy (fun t => (parser t, t.failed, t.credValid, t.errState, t.cfg.maxRetries)) =
    some ((0, 0x00#8, []), false, false, 0x00#8, 3#8) := by
  decide

/-- V-X4. -/
theorem test_reached_after : reached 0x00000000#32 0xFFFFFFFF#32 = true := by decide

/-- V-X5. -/
theorem test_reached_before : reached 0xFFFFFFFF#32 0x00000000#32 = false := by decide
/-! ## Witnesses: states and operands that meet the hypotheses of the statements, clause by clause, at the bounds -/

theorem witness_FrameDecodesToWhatWasEncoded :
    (Instr.frameReservedType 0x05#8 (zeros 255)).format = .frame ∧
    (Instr.frameReservedType 0x05#8 (zeros 255)).wellFormed = true := by
  refine ⟨rfl, ?_⟩
  simp [Instr.wellFormed]
  decide

theorem witness_PayloadDecodesToWhatWasEncoded :
    (Instr.wifiSettings (zeros 200) (zeros 51) []).format = .rpc ∧
    (Instr.wifiSettings (zeros 200) (zeros 51) []).wellFormed = true ∧
    (Instr.rpcMalformed []).wellFormed = true ∧ (Instr.rpcReservedCommand 0x05#8 (zeros 253)).wellFormed = true := by
  refine ⟨rfl, ?_, rfl, ?_⟩ <;> simp [Instr.wellFormed]
  decide

theorem witness_DecodedFrameReencodes :
    (decodeFrame (stateFrame 0x04#8 ++ hx [0x49])).toOption = some (.currentState (hx [0x04]), hx [0x49]) := by decide

theorem witness_DecodedPayloadReencodes : (zeros 255).length ≤ 255 := by simp

theorem witness_DecodersFollowTheOpcodeTable : ∀ q, decodeRpc (0x05#8 :: [0x00#8]) ≠ .rpcMalformed q := by
  intro q h
  have h' : decodeRpc (0x05#8 :: [0x00#8]) = .rpcReservedCommand 0x05#8 [] := by decide
  rw [h'] at h
  exact Instr.noConfusion h

theorem witness_MutatedFrameIsNoFrame :
    (hx [0x02, 0x00]).length ≤ 255 ∧ 10 < 9 + (hx [0x02, 0x00]).length ∧
    (makeFrame 0x03#8 (hx [0x02, 0x00]))[10]? ≠ some 0x03#8 := by decide

theorem witness_FrameLengthAndChecksum : (zeros 255).length ≤ 255 := by simp

theorem witness_DecodeMakesItsChecksInOrder_length :
    (hx [0x02, 0x00]).length < 2 + 1 ∧ ∃ d, (hx [0x02, 0x01, 0x03])[1]? = some d ∧ d.toNat + 2 + 1 ≠ 3 :=
  ⟨by decide, 0x01#8, by decide, by decide⟩

theorem witness_DecodeMakesItsChecksInOrder_checksum :
    (hx [0x02, 0x00, 0x03])[1]? = some 0x00#8 ∧ (0x00#8 : Byte).toNat + 2 + 1 = (hx [0x02, 0x00, 0x03]).length ∧
    (hx [0x02, 0x00, 0x03]).getLast? ≠ some (sum8 (hx [0x02, 0x00, 0x03]).dropLast) := by decide

theorem witness_DecodeMakesItsChecksInOrder_command :
    (hx [0x02, 0x00, 0x02])[1]? = some 0x00#8 ∧ (0x00#8 : Byte).toNat + 2 + 1 = (hx [0x02, 0x00, 0x02]).length ∧
    (hx [0x02, 0x00, 0x02]).getLast? = some (sum8 (hx [0x02, 0x00, 0x02]).dropLast) ∧
    (hx [0x02, 0x00, 0x02])[0]? = some 0x02#8 ∧ (hx [0x03, 0x00])[0]? = some 0x03#8 ∧
    (hx [0x04, 0x00])[0]? = some 0x04#8 ∧ (hx [0x05, 0x00])[0]? = some 0x05#8 ∧ assigned 0x05#8 = false := by decide

/-- R131, R136: the checksum byte is no data: `01 02 00 01` and its checksum 04 give `Unknown`. -/
theorem test_decode_checksum_is_no_data :
    decodeCommand (hx [0x01, 0x02, 0x00, 0x01, 0x04]) true = .unknown := by decide

theorem witness_DecodeReadsTwoFieldsOrGivesUnknown_two :
    2 + (zeros 251).length + (hx [0x61]).length + (hx [0xEE]).length ≤ 255 := by simp [hx]

theorem witness_DecodeReadsTwoFieldsOrGivesUnknown_none :
    (hx [0x00]).length ≤ 255 ∧ ∀ ssid pw tr : Bytes, ssid.length ≤ 255 → pw.length ≤ 255 →
      hx [0x00] ≠ field ssid ++ field pw ++ tr := by
  refine ⟨by decide, ?_⟩
  intro ssid pw tr _ _ h
  have hl := congrArg List.length h
  simp [hx] at hl
  omega

theorem witness_CodecRoundTrip :
    (zeros 200).length + (zeros 53).length ≤ 253 ∧ 253 < (zeros 200).length + (zeros 54).length := by simp

theorem witness_BuildRpcResponseEncodesOrRefuses :
    (∀ f ∈ [zeros 254], f.length ≤ 255) ∧ (fieldsBody [zeros 254]).length ≤ 255 ∧
    (∃ f ∈ [zeros 256], 255 < f.length) ∧ 255 < (fieldsBody [zeros 255]).length := by simp [fieldsBody]

theorem witness_MakeFrameBuildsTheFrame : (zeros 255).length ≤ 255 ∧ 255 < (zeros 256).length := by simp

/-- A state whose device URL has `n` bytes. -/
def withUrl (n : Nat) (connected try_ : Bool) : State :=
  { State.reset with env := { answers 0#32 connected try_ with deviceUrl := zeros n } }

theorem witness_ResponseIsEmittedOrWithheld :
    responseFits [zeros 252] ∧ ¬ responseFits [zeros 253] ∧
    (withUrl 252 true true).env.deviceUrl.length ≤ 252 ∧ 252 < (withUrl 253 true true).env.deviceUrl.length := by
  simp [responseFits, fieldsBody, withUrl]

theorem witness_GetCurrentStateAnswers :
    (withUrl 0 false true).env.netConnected = false ∧ (withUrl 252 true true).env.netConnected = true ∧
    (withUrl 252 true true).env.deviceUrl.length ≤ 252 ∧ 252 < (withUrl 253 true true).env.deviceUrl.length := by
  simp [withUrl, answers]

theorem witness_WifiSettingsSucceeds :
    zeros 255 ≠ [] ∧ (zeros 255).length ≤ 255 ∧ (withUrl 252 true true).env.tryConnect = true ∧
    (withUrl 252 true true).env.deviceUrl.length ≤ 252 ∧ 252 < (withUrl 253 true true).env.deviceUrl.length := by
  refine ⟨?_, ?_⟩
  · exact List.ne_nil_of_length_pos (by simp)
  · simp [withUrl, answers]

theorem witness_WifiSettingsFails : abcd ≠ [] ∧ (start 0#32 false false).env.tryConnect = false := by decide

/-- A configuration whose four strings have `n` bytes in all. -/
def longConfig (n : Nat) : Config := { resetConfig with fwName := zeros n }

theorem witness_DeviceInfoAnswers :
    (longConfig 249).deviceInfoFits = true ∧ (longConfig 250).deviceInfoFits = false := by
  simp [Config.deviceInfoFits, longConfig, resetConfig]

theorem witness_DispatchRunsTheRuleOfTheCommand : (Instr.rpcMalformed []).format = .rpc := by decide

theorem witness_PreambleAndVersionBytes :
    (having State.reset []).buf.wf = true ∧ (having State.reset []).pos.toNat ≤ 5 ∧
    [0x49#8, 0x4D#8, 0x50#8, 0x52#8, 0x4F#8, 0x56#8][(having State.reset []).pos.toNat]? = some 0x49#8 ∧
    (having State.reset (preamble.take 5)).pos.toNat = 5 ∧ (having State.reset preamble).pos.toNat = 6 ∧
    [0x49#8, 0x4D#8, 0x50#8, 0x52#8, 0x4F#8, 0x56#8][5]? ≠ some 0x49#8 ∧ (0x02#8 : Byte) ≠ 0x01#8 := by decide

theorem witness_TypeLengthAndPayloadBytesAreAccepted :
    (having State.reset (header 0x03#8 0x01#8)).buf.wf = true ∧
    (having State.reset (preamble ++ [version])).pos.toNat = 7 ∧
    (having State.reset (preamble ++ [version, 0x03#8])).pos.toNat = 8 ∧
    9 ≤ (having State.reset (header 0x03#8 0x01#8)).pos.toNat ∧
    (having State.reset (header 0x03#8 0x01#8)).pos.toNat ≤
      8 + ((having State.reset (header 0x03#8 0x01#8)).buf.read 8).toNat := by decide

/-- The parser at the last position there is: the length byte says 255, 264 bytes are in. -/
def atTheEnd : State := { State.reset with pos := 264#9, buf := [(7, 0x03#8), (8, 0xFF#8)], csum := 0x10#8 }

theorem witness_WrongChecksumRaisesInvalidRpc :
    atTheEnd.pos.toNat = 9 + (atTheEnd.buf.read 8).toNat ∧ 0x11#8 ≠ atTheEnd.csum ∧
    (having State.reset (header 0x03#8 0x00#8)).pos.toNat =
      9 + ((having State.reset (header 0x03#8 0x00#8)).buf.read 8).toNat := by decide

theorem witness_RightChecksumRunsTheFrame :
    atTheEnd.pos.toNat = 9 + (atTheEnd.buf.read 8).toNat ∧ 0x10#8 = atTheEnd.csum := by decide

theorem witness_StepClassesStopWhereNotSelected :
    5 < (having State.reset preamble).pos.toNat ∧ State.reset.pos.toNat ≠ 6 ∧ State.reset.pos.toNat ≠ 7 ∧
    State.reset.pos.toNat ≠ 8 ∧ State.reset.pos.toNat < 9 ∧ 8 + (atTheEnd.buf.read 8).toNat < atTheEnd.pos.toNat ∧
    State.reset.pos.toNat ≠ 9 + (State.reset.buf.read 8).toNat ∧ 0x10#8 = atTheEnd.csum ∧
    0x11#8 ≠ atTheEnd.csum := by decide

theorem witness_RxByteRunsTheSelectedClass :
    9 ≤ atTheEnd.pos.toNat → atTheEnd.pos.toNat ≤ 9 + (atTheEnd.buf.read 8).toNat := by decide

/-- The reset state with the bytes of a frame pending. -/
def pending (w : Bytes) : State := { State.reset with input := rxEvents (answers 0#32 false false) w ++ [] }

theorem witness_ReceivingAFrameRunsItsInstruction :
    (Instr.rpcCommand (hx [0x02, 0x00])).format = .frame ∧ (Instr.rpcCommand (hx [0x02, 0x00])).wellFormed = true ∧
    encode (.rpcCommand (hx [0x02, 0x00])) = some (makeFrame 0x03#8 (hx [0x02, 0x00])) ∧
    (pending (makeFrame 0x03#8 (hx [0x02, 0x00]))).pos = 0#9 ∧
    (pending (makeFrame 0x03#8 (hx [0x02, 0x00]))).csum = 0x00#8 ∧
    (pending (makeFrame 0x03#8 (hx [0x02, 0x00]))).buf.wf = true ∧
    (pending (makeFrame 0x03#8 (hx [0x02, 0x00]))).input =
      rxEvents (answers 0#32 false false) (makeFrame 0x03#8 (hx [0x02, 0x00])) ++ [] :=
  ⟨rfl, rfl, rfl, rfl, rfl, rfl, rfl⟩

theorem witness_MutatedFrameRaisesInvalidRpc :
    (hx [0x02, 0x00]).length ≤ 255 ∧ (9 ≤ 10 ∧ 10 < 9 + (hx [0x02, 0x00]).length) ∧
    (makeFrame 0x03#8 (hx [0x02, 0x00]))[10]? ≠ some 0x03#8 ∧
    (makeFrame 0x03#8 (hx [0x02, 0x00]))[7]? ≠ some 0x01#8 ∧
    State.reset.pos = 0#9 ∧ State.reset.csum = 0x00#8 ∧ State.reset.buf.wf = true := by decide

/-- The reset state with one input pending. -/
def next (x : Input) : State := { State.reset with input := [x] }

theorem witness_StepRunsTheNextEvent :
    State.reset.input = [] ∧
    (next (.event (.rxByte 0x49#8) Env.placeholder)).input = .event (.rxByte 0x49#8) Env.placeholder :: [] ∧
    (next (.event .tick Env.placeholder)).input = .event .tick Env.placeholder :: [] ∧
    (next (.event .reset Env.placeholder)).input = .event .reset Env.placeholder :: [] ∧
    (next (.configure testConfig)).input = .configure testConfig :: [] :=
  ⟨rfl, rfl, rfl, rfl, rfl⟩

theorem witness_StepRunsTheNextEvent_configure :
    (next (.configure testConfig)).started = false ∧
    ({ next (.configure testConfig) with started := true }).started = true := by decide

/-- U25: the ranges are a premise and no condition of the machine: `MAX_RETRIES` 0 is taken. -/
theorem test_configure_out_of_range :
    ((after (step (next (.configure { testConfig with maxRetries := 0#8, credAvailAtReset := true })))).map fun t =>
      (t.cfg.maxRetries, t.credAvailable, t.cfg.inRange)) = some (0#8, true, false) := by decide

set_option maxRecDepth 4000 in
/-- R258: a device-info string past its bound costs the response and sets `fault_encode`. -/
theorem test_configure_overlong_string :
    ((after (step (next (.configure { testConfig with fwName := zeros 256 })))).bind fun t =>
      (after (exec (.getDeviceInfo []) t)).map fun u => (u.tx, u.faultEncode)) = some ([], true) := by decide

/-- The state before the last byte of `GET_CURRENT_STATE` (V-P1), that byte pending. -/
def lastByte (now : Time) (connected : Bool) : State :=
  { having State.reset (header 0x03#8 0x02#8 ++ hx [0x02, 0x00]) with
    input := [.event (.rxByte 0xE5#8) (answers now connected false)] }

theorem lastByte_parserInv : (lastByte 500#32 false).ParserInv :=
  ⟨by decide, by decide, by decide, by decide, by decide⟩

theorem witness_StepRunsTheDecodedFrame :
    (lastByte 500#32 false).ParserInv ∧
    (lastByte 500#32 false).input = .event (.rxByte 0xE5#8) (answers 500#32 false false) :: [] ∧
    (decodeFrame ((lastByte 500#32 false).candidate ++ [0xE5#8])).toOption =
      some (.rpcCommand (hx [0x02, 0x00]), []) ∧
    9 ≤ (lastByte 500#32 false).pos.toNat ∧
    (lastByte 500#32 false).pos.toNat = 9 + ((lastByte 500#32 false).buf.read 8).toNat ∧
    0xE5#8 = (lastByte 500#32 false).csum :=
  ⟨lastByte_parserInv, rfl, by decide, by decide, by decide, by decide⟩

theorem witness_CycleStarts :
    loading.cmPhase = .idle ∧ loading.env.netConnected = false ∧ loading.credAvailable = true ∧
    loading.failed = false ∧ loading.credValid = false ∧ loading.env.storageLoad = some (abcd, password) ∧
    (cached (start 0#32 false false)).credValid = true ∧ (cached (start 0#32 false false)).credAvailable = true ∧
    (start 0#32 false false).env.storageLoad = none := by decide

theorem witness_AttemptEnds :
    (joining (start 20000#32 true false)).cmPhase = .joining ∧
    (joining (start 20000#32 true false)).env.netConnected = true ∧
    (joining (start 10000#32 false false)).env.netConnected = false ∧
    ((joining (start 10000#32 false false)).env.now -
      (joining (start 10000#32 false false)).attemptDeadline).toNat < 2 ^ 31 ∧
    (joining (start 10000#32 false false)).retriesDone.toNat < 255 ∧ (2#8 : Byte).toNat < 255 ∧
    (joining (start 10000#32 false false)).retriesDone + 1#8 ≠ testConfig.maxRetries ∧
    (2#8 : Byte) + 1#8 = testConfig.maxRetries ∧
    (exhausted (start 0#32 false false)).retriesDone = (exhausted (start 0#32 false false)).cfg.maxRetries := by decide

theorem witness_GiveUpAndEdges :
    (exhausted (start 0#32 false false)).cmPhase = .idle ∧ (exhausted (start 0#32 false false)).failed = true ∧
    (start 0#32 true false).env.netConnected = true ∧ (start 0#32 true false).lastConnected = false ∧
    (start 0#32 false false).env.netConnected = false ∧
    ({ start 0#32 false false with lastConnected := true }).lastConnected = true := by decide

theorem witness_TickPartsStopWhereNotSelected :
    (start 0#32 false false).credAvailable = false ∧ (start 0#32 false false).cmPhase = .idle ∧
    2 ^ 31 ≤ ((joining (start 9999#32 false false)).env.now -
      (joining (start 9999#32 false false)).attemptDeadline).toNat ∧
    (start 0#32 false false).retriesDone ≠ (start 0#32 false false).cfg.maxRetries ∧
    (start 0#32 false false).failed = false ∧
    (start 0#32 false false).env.netConnected = (start 0#32 false false).lastConnected := by decide

theorem witness_TickRunsThePolicyThenTheEdge :
    (joining (start 9999#32 false false)).cmPhase = .joining ∧
    (joining (start 9999#32 false false)).env.netConnected = false ∧
    2 ^ 31 ≤ ((joining (start 9999#32 false false)).env.now -
      (joining (start 9999#32 false false)).attemptDeadline).toNat ∧
    (start 0#32 true false).cmPhase = .idle ∧ (start 0#32 true false).failed = false ∧
    (start 0#32 true false).env.netConnected = true ∧ (start 0#32 true false).lastConnected = false := by decide

theorem reset_managerInv (l : List Input) (h : ∀ c, .configure c ∈ l → c.inRange = true) :
    ({ State.reset with input := l }).ManagerInv :=
  ⟨Nat.zero_le _, fun _ => (by decide : (0#8 : Byte).toNat < (3#8 : Byte).toNat), (nomatch ·), (nomatch ·),
   Nat.zero_le _, Nat.zero_le _, (by decide : resetConfig.inRange = true), fun _ => ⟨rfl, rfl, rfl, rfl⟩, h⟩

theorem witness_ExhaustionNotifiesOnce :
    let envs := [answers 0#32 false false, answers 1#32 false false]
    let s : State := { State.reset with input := envs.map fun e => .event .tick e }
    s.ManagerInv ∧ s.failed = false ∧ (∀ e ∈ envs, e.netConnected = false) ∧
    s.input = envs.map (fun e => .event .tick e) :=
  ⟨reset_managerInv _ (by simp), rfl, by decide, rfl⟩

/-- The state after the last byte of V-P1. -/
theorem lastByte_step : ((after (step (lastByte 500#32 false))).map fun t => (t.provState, t.tx)) =
    some (0x02#8, [stateFrame 0x02#8]) := by decide

theorem lastByte_next : ∃ t, step (lastByte 500#32 false) = .next t ∧ t.provState = 0x02#8 := by
  have h := lastByte_step
  cases hs : step (lastByte 500#32 false) with
  | next t => simp [hs, after] at h; exact ⟨t, rfl, h.1⟩
  | fault f => simp [hs, after] at h
  | refused r => simp [hs, after] at h

theorem lastByte_rpcInv : (lastByte 500#32 false).RpcInv :=
  ⟨by decide, by decide, fun _ hf => absurd hf List.not_mem_nil, by decide, by decide⟩

theorem witness_StepKeepsParserInvariant :
    (lastByte 500#32 false).ParserInv ∧ ∃ t, step (lastByte 500#32 false) = .next t :=
  ⟨lastByte_parserInv, lastByte_next.imp fun _ h => h.1⟩

theorem witness_StepKeepsRpcInvariant :
    (lastByte 500#32 false).RpcInv ∧ ∃ t, step (lastByte 500#32 false) = .next t :=
  ⟨lastByte_rpcInv, lastByte_next.imp fun _ h => h.1⟩

theorem witness_StepKeepsManagerInvariant :
    ({ State.reset with input := [.event .tick (answers 0#32 true false)] }).ManagerInv ∧
    ∃ t, step { State.reset with input := [.event .tick (answers 0#32 true false)] } = .next t :=
  ⟨reset_managerInv _ (by simp), _, rfl⟩

theorem witness_UnreadContentIsNeverObserved :
    let x : Input := .event .tick (answers 0#32 true false)
    let s : State := { State.reset with input := [x] }
    let t : State := { State.reset with buf := [(3, 0x11#8)], credSsid := abcd, attemptDeadline := 5#32, input := [x] }
    s.ParserInv ∧ t.ParserInv ∧ s.ManagerInv ∧ t.ManagerInv ∧ s.Similar t ∧ s ≠ t :=
  ⟨⟨by decide, by decide, by decide, by decide, by decide⟩, ⟨by decide, by decide, by decide, by decide, by decide⟩,
   reset_managerInv _ (by simp),
   ⟨by decide, by decide, by decide, by decide, by decide, by decide, by decide, by decide, by simp⟩,
   ⟨rfl, by decide, by decide, by decide, rfl⟩, fun h => by
     have := congrArg State.credSsid h
     revert this
     decide⟩

theorem witness_ProvStateMovesOnlyOnACommand :
    ∃ t, step (lastByte 500#32 false) = .next t ∧ t.provState ≠ (lastByte 500#32 false).provState := by
  obtain ⟨t, h1, h2⟩ := lastByte_next
  exact ⟨t, h1, by rw [h2]; decide⟩

theorem witness_ErrStateIsSticky :
    let env := answers 0#32 false true
    let s : State := { having State.reset (header 0x03#8 0x05#8 ++ hx [0x01, 0x03, 0x01, 0x61, 0x00]) with
      errState := 0x02#8, input := [.event (.rxByte 0x4C#8) env] }
    s.errState ≠ 0x00#8 ∧ ((after (step s)).map State.errState) = some 0x00#8 := by decide

theorem witness_FramesLeaveOnlyAtAChecksumByte : ∃ t, step (lastByte 500#32 false) = .next t :=
  lastByte_next.imp fun _ h => h.1

theorem witness_ReachedIsRightAcrossTheWrap : 2 ^ 31 - 1 < 2 ^ 31 ∧ 0 < 2 ^ 31 ∧ 2 ^ 31 ≤ 2 ^ 31 := by decide

end Sys2Proof.Tests
end

section
/-! PROOFS. The wire format of frames: their length, their checksum, and the worked encodings. -/

namespace Sys2Proof

/-! ## The checksum of a frame (R83) -/

/-- The constant part of every checksum: the preamble and the version. -/
theorem sum8_preamble_version : sum8 (preamble ++ [version]) = 0xDE#8 := by decide

/-- R83: what precedes the checksum sums to the header's constant, the type, the length byte and the payload. -/
theorem sum8_frameBody (t : Byte) (p : Bytes) :
    sum8 (frameBody t p) = 0xDE#8 + t + lengthByte p.length + sum8 p := by
  have frameBody_eq : frameBody t p = (preamble ++ [version]) ++ ([t, lengthByte p.length] ++ p) := by
    simp [frameBody]
  rw [frameBody_eq, sum8_append (preamble ++ [version]), sum8_preamble_version]
  simp [sum8, BitVec.add_assoc]

/-- The last byte of a frame is its checksum. -/
@[simp] theorem getLast?_makeFrame (t : Byte) (p : Bytes) :
    (makeFrame t p).getLast? = some (sum8 (frameBody t p)) := by
  simp [makeFrame]

end Sys2Proof

open Sys2Proof

/-- Settles O8: the length bounds follow from `length_makeFrame`, the checksum from `sum8_frameBody`. -/
theorem frameLengthAndChecksum : Obligations.FrameLengthAndChecksum := by
  unfold Obligations.FrameLengthAndChecksum
  intro t p hp
  have length_eq : (makeFrame t p).length = 10 + p.length := length_makeFrame t p
  refine ⟨length_eq, by omega, by omega, ?_, ?_⟩
  · rw [getLast?_makeFrame, dropLast_makeFrame]
  · rw [dropLast_makeFrame, sum8_frameBody, lengthByte]

/-- Settles O1: the words are fixed, so each part (three frames, the payload as an instruction, the payload with its
checksum as a command) is an evaluation of the decoder it names. -/
theorem workedEncodingsDecode : Obligations.WorkedEncodingsDecode := by
  unfold Obligations.WorkedEncodingsDecode
  refine ⟨?currentState, ?errorState, ?rpcCommand, ?payload, ?command⟩
  case currentState => decide
  case errorState => decide
  case rpcCommand => decide
  case payload => decide
  case command => decide

end

section
/-! PROOFS. The Frame Parser: the outcome of each step class where it is selected, and the frames that only refresh the
deadline. -/

namespace Sys2Proof.Machine

/-! ## Accepting and rejecting a byte (R110) -/

/-- R110: a stored byte is accepted; the canonical form is what makes a stored 00 read back. -/
theorem acceptedBy_stored {s : State} (hwf : s.buf.wf = true) (hpos : s.pos.toNat < bufSize) (b : Byte) :
    s.acceptedBy (stored s b) b :=
  ⟨stored_pos hpos b, rfl, read_write_same s.pos.toNat b hwf, fun _ ha => read_write_other b ha, rfl⟩

/-- A right byte leads to the state that accepts it. -/
theorem verdict_accepts {s : State} {b : Byte} {ok : Bool} (hwf : s.buf.wf = true) (hpos : s.pos.toNat < bufSize)
    (hok : ok = true) : ∃ t, s.verdict ok b = .next t ∧ s.acceptedBy t b := by
  subst hok
  exact ⟨stored s b, accept_eq hpos b, acceptedBy_stored hwf hpos b⟩

/-- A wrong byte is a silent framing error (R224). -/
theorem verdict_rejects {s : State} {b : Byte} {ok : Bool} (hok : ok = false) :
    s.verdict ok b = .next { s with pos := 0#9, csum := 0x00#8 } := by
  subst hok
  rfl

/-! ## The step classes where they are selected (R111 to R117) -/

/-- R111: the byte is compared with the preamble. -/
theorem exec_pPreamble {s : State} (h : s.pos.toNat ≤ 5) (b : Byte) :
    exec (.pPreamble b) s = s.verdict (b = preambleAt s.pos.toNat) b := if_pos h

/-- R112: the byte is compared with the version. -/
theorem exec_pVersion {s : State} (h : s.pos.toNat = 6) (b : Byte) :
    exec (.pVersion b) s = s.verdict (b = version) b := if_pos h

/-- R113: no comparison is made. -/
theorem exec_pType {s : State} (h : s.pos.toNat = 7) (b : Byte) : exec (.pType b) s = s.verdict true b := if_pos h

/-- R114: no comparison is made, so every L is taken. -/
theorem exec_pLength {s : State} (h : s.pos.toNat = 8) (b : Byte) : exec (.pLength b) s = s.verdict true b := if_pos h

/-- R115: no comparison is made. -/
theorem exec_pPayload {s : State} (h9 : 9 ≤ s.pos.toNat) (hL : s.pos.toNat ≤ 8 + s.frameLength) (b : Byte) :
    exec (.pPayload b) s = s.verdict true b := if_pos ⟨h9, hL⟩

/-- R116: at position 9+L the reads of the type and the payload are defined, so the checksum alone decides. -/
theorem exec_pChecksum {s : State} (h : s.pos.toNat = 9 + s.frameLength) (b : Byte) :
    exec (.pChecksum b) s = .next (if b ≠ s.csum then s.checksumMismatch
      else s.checksumMatch (s.buf.read 7) (s.buf.readList 9 s.frameLength)) := by
  have type_read : s.memReadByte 7 = some (s.buf.read 7) := memReadByte_eq (by omega)
  have payload_read : s.memRead 9 s.frameLength = some (s.buf.readList 9 s.frameLength) := memRead_eq (by omega)
  have exec_eq : exec (.pChecksum b) s = execPChecksum b s := rfl
  rw [exec_eq, execPChecksum, if_pos ((atChecksum_iff s).mpr h), type_read, payload_read]

/-- R117: the mismatch path under its own row. -/
theorem exec_pChecksumMismatch {s : State} {b : Byte} (h : s.pos.toNat = 9 + s.frameLength) (hb : b ≠ s.csum) :
    exec (.pChecksumMismatch b) s = .next s.checksumMismatch := if_pos ⟨(atChecksum_iff s).mpr h, hb⟩

/-! ## The bytes of the preamble, the error frame, the deadline -/

/-- The preamble at a position: the list of its six bytes is read by `preambleAt` (R111). -/
theorem preamble_getElem?_eq_some_iff {k : Nat} (h : k ≤ 5) (b : Byte) :
    preamble[k]? = some b ↔ b = preambleAt k := by
  have in_preamble : k < preamble.length := by rw [length_preamble]; omega
  rw [preambleAt, List.getD_eq_getElem?_getD, List.getElem?_eq_getElem in_preamble, Option.getD_some,
    Option.some.injEq, eq_comm]

/-- The error frame as R152 prints it is the frame of type 02 with the code as payload. -/
theorem makeFrame_error (e : Byte) : makeFrame 0x02#8 [e] = errorFrame e := by
  have checksum : sum8 (frameBody 0x02#8 [e]) = 0xE1#8 + e := by
    rw [sum8_frameBody]
    simp [sum8, lengthByte]
  rw [makeFrame_eq, checksum]
  rfl

/-- R222: what `SetError(e)` appends is what raising `e` puts out. -/
theorem errorOutputs_eq_raised (c : Config) (e : Byte) : errorOutputs c e = raised c e := by
  rw [errorOutputs, raised, makeFrame_error]
  rfl

/-- R121: the completion of a frame that is no command writes the deadline and the parser, nothing else. -/
theorem resetParser_refreshDeadline (s : State) :
    s.refreshDeadline.resetParser =
      { s with inactDeadline := s.env.now + s.cfg.tInact, inactValid := true, pos := 0#9, csum := 0x00#8 } := rfl

end Sys2Proof.Machine

open Sys2Proof Sys2Proof.Machine

/-- Settles O30: where a class is selected its outcome is the verdict on the comparison it makes. -/
theorem preambleAndVersionBytes : Obligations.PreambleAndVersionBytes := by
  unfold Obligations.PreambleAndVersionBytes
  intro b s hwf
  refine ⟨?preambleRight, ?preambleWrong, ?versionRight, ?versionWrong⟩
  case preambleRight =>
    intro h5 hb
    have right : b = preambleAt s.pos.toNat := (preamble_getElem?_eq_some_iff h5 b).mp hb
    have in_buffer : s.pos.toNat < bufSize := by unfold bufSize; omega
    rw [exec_pPreamble h5]
    exact verdict_accepts hwf in_buffer (decide_eq_true right)
  case preambleWrong =>
    intro h5 hb
    have wrong : b ≠ preambleAt s.pos.toNat := mt (preamble_getElem?_eq_some_iff h5 b).mpr hb
    rw [exec_pPreamble h5]
    exact verdict_rejects (decide_eq_false wrong)
  case versionRight =>
    intro h6 hb
    have in_buffer : s.pos.toNat < bufSize := by unfold bufSize; omega
    rw [exec_pVersion h6]
    exact verdict_accepts hwf in_buffer (decide_eq_true hb)
  case versionWrong =>
    intro h6 hb
    rw [exec_pVersion h6]
    exact verdict_rejects (decide_eq_false hb)

/-- Settles O31: the three classes make no comparison; the last payload position, 8 + 255, is still in the buffer. -/
theorem typeLengthAndPayloadBytesAreAccepted : Obligations.TypeLengthAndPayloadBytesAreAccepted := by
  unfold Obligations.TypeLengthAndPayloadBytesAreAccepted
  intro b s hwf
  have accepts (h : s.pos.toNat ≤ 8 + s.frameLength) : ∃ t, s.verdict true b = .next t ∧ s.acceptedBy t b := by
    have length_le := frameLength_le s
    exact verdict_accepts hwf (by unfold bufSize; omega) rfl
  refine ⟨?type, ?length, ?payload⟩
  case type =>
    intro h7
    rw [exec_pType h7]
    exact accepts (by omega)
  case length =>
    intro h8
    rw [exec_pLength h8]
    exact accepts (by omega)
  case payload =>
    intro h9 hL
    rw [exec_pPayload h9 hL]
    exact accepts hL

/-- Settles O32: both rows take the mismatch path, whose writes `checksumMismatch_eq` lists. -/
theorem wrongChecksumRaisesInvalidRpc : Obligations.WrongChecksumRaisesInvalidRpc := by
  unfold Obligations.WrongChecksumRaisesInvalidRpc
  intro b s hpos hb
  rw [exec_pChecksum hpos, if_pos hb, exec_pChecksumMismatch hpos hb, checksumMismatch_eq, errorOutputs_eq_raised]
  exact ⟨rfl, rfl⟩

/-- Settles O28: each of the four rows is `refreshDeadline` and then `resetParser`. -/
theorem otherFramesOnlyRefreshTheDeadline : Obligations.OtherFramesOnlyRefreshTheDeadline := by
  unfold Obligations.OtherFramesOnlyRefreshTheDeadline
  intro ty p s
  rw [← resetParser_refreshDeadline]
  exact ⟨rfl, rfl, rfl, rfl⟩

end

section
/-! PROOFS. The Command Codec: bytes and slices of a concatenation, the checksum at the end of a payload, the two strings
of `WifiSettings`, what the encoder gives. -/

namespace Sys2Proof.Machine

/-! ## Bytes and slices (00_scope.md section 6) -/

/-- The byte right behind a prefix. -/
theorem byteAt_append_length (xs : Bytes) (b : Byte) (ys : Bytes) : byteAt (xs ++ b :: ys) xs.length = b := by
  simp [byteAt]

/-- The part between a prefix and a suffix. The end index is inclusive, so it is the one before the suffix. -/
theorem slice_append_mid (xs ys zs : Bytes) {a b : Nat} (ha : a = xs.length) (hb : b + 1 = xs.length + ys.length) :
    slice (xs ++ ys ++ zs) a b = ys := by
  rw [slice, hb, ha, ← List.length_append, List.take_left, List.drop_left]

/-! ## Reading a field (R91, R135) -/

/-- The length byte of a field behind a prefix. -/
theorem byteAt_append_field (xs : Bytes) {s : Bytes} (h : s.length ≤ 255) (r : Bytes) :
    (byteAt (xs ++ (field s ++ r)) xs.length).toNat = s.length := by
  rw [field, List.cons_append, byteAt_append_length, toNat_lengthByte h]

/-- The string of a field behind a prefix. -/
theorem slice_append_field (xs s r : Bytes) {a b : Nat} (ha : a = xs.length + 1) (hb : b = xs.length + s.length) :
    slice (xs ++ (field s ++ r)) a b = s := by
  have cut : xs ++ (field s ++ r) = (xs ++ [lengthByte s.length]) ++ s ++ r := by simp [field]
  rw [cut]
  exact slice_append_mid _ s r (by simpa using ha) (by simp; omega)

/-! ## Reading a payload, with or without its checksum (R88, R131, R133) -/

/-- The command byte of a payload. -/
theorem byteAt_rpcPayload_zero (c : Byte) (d zs : Bytes) : byteAt (rpcPayload c d ++ zs) 0 = c := rfl

/-- The data length byte of a payload. -/
theorem byteAt_rpcPayload_one (c : Byte) {d : Bytes} (h : d.length ≤ 255) (zs : Bytes) :
    (byteAt (rpcPayload c d ++ zs) 1).toNat = d.length := toNat_lengthByte h

/-- The data of a payload. -/
theorem slice_rpcPayload (c : Byte) (d zs : Bytes) : slice (rpcPayload c d ++ zs) 2 (1 + d.length) = d :=
  slice_append_mid [c, lengthByte d.length] d zs rfl (by simp; omega)

/-- `Decode` with checksum takes a payload with the right sum behind it for what `Decode` without takes the payload
alone for: the length check allows for the sum, and the sum is no data. -/
theorem decodeCommand_append_sum8 (c : Byte) {d : Bytes} (h : d.length ≤ 255) :
    decodeCommand (rpcPayload c d ++ [sum8 (rpcPayload c d)]) true = decodeCommand (rpcPayload c d) false := by
  have last : byteAt (rpcPayload c d ++ [sum8 (rpcPayload c d)]) (d.length + 2) = sum8 (rpcPayload c d) := by
    rw [← length_rpcPayload c d, byteAt_append_length]
  have summed : (rpcPayload c d ++ [sum8 (rpcPayload c d)]).take (d.length + 2) = rpcPayload c d := by
    rw [← length_rpcPayload c d, List.take_left]
  have tag_alone := byteAt_rpcPayload_zero c d []
  have count_alone := byteAt_rpcPayload_one c h []
  have data_alone := slice_rpcPayload c d []
  rw [List.append_nil] at tag_alone count_alone data_alone
  simp [decodeCommand, byteAt_rpcPayload_zero, byteAt_rpcPayload_one c h, slice_rpcPayload, last, summed, tag_alone,
    count_alone, data_alone]

/-! ## The two strings of `WifiSettings` (R135 to R137) -/

/-- `Decode` reads the two strings at the front of the data of a `WifiSettings`; bytes after them are ignored. -/
theorem decodeCommand_wifiSettings {ssid pw tr : Bytes} (h : 2 + ssid.length + pw.length + tr.length ≤ 255) :
    decodeCommand (rpcPayload 0x01#8 (field ssid ++ field pw ++ tr)) false = .wifiSettings ssid pw := by
  have data_length : (field ssid ++ field pw ++ tr).length = 2 + ssid.length + pw.length + tr.length := by
    simp only [List.length_append, length_field]
    omega
  have ssid_length : (byteAt (field ssid ++ field pw ++ tr) 0).toNat = ssid.length := by
    rw [List.append_assoc]
    exact byteAt_append_field [] (by omega) _
  have ssid_read : slice (field ssid ++ field pw ++ tr) 1 ssid.length = ssid := by
    rw [List.append_assoc]
    exact slice_append_field [] ssid _ rfl (Nat.zero_add _).symm
  have pw_length : (byteAt (field ssid ++ field pw ++ tr) (1 + ssid.length)).toNat = pw.length := by
    rw [Nat.add_comm, ← length_field, List.append_assoc]
    exact byteAt_append_field (field ssid) (by omega) tr
  have pw_read : slice (field ssid ++ field pw ++ tr) (2 + ssid.length) (1 + ssid.length + pw.length) = pw := by
    rw [List.append_assoc]
    exact slice_append_field (field ssid) pw tr (by rw [length_field]; omega) (by rw [length_field]; omega)
  generalize field ssid ++ field pw ++ tr = a at data_length ssid_length ssid_read pw_length pw_read ⊢
  have tag : byteAt (rpcPayload 0x01#8 a) 0 = 0x01#8 := rfl
  have count : (byteAt (rpcPayload 0x01#8 a) 1).toNat = a.length := toNat_lengthByte (by omega)
  have data : slice (rpcPayload 0x01#8 a) 2 (1 + a.length) = a := by simpa using slice_rpcPayload 0x01#8 a []
  have not_empty : ¬ a.length < 1 := by omega
  have ssid_fits : ¬ a.length < 1 + ssid.length + 1 := by omega
  have pw_fits : ¬ a.length < 1 + ssid.length + 1 + pw.length := by omega
  simp [decodeCommand, tag, count, data, ssid_length, ssid_read, pw_length, pw_read, not_empty, ssid_fits, pw_fits]

/-! ## What the encoder gives (R140 to R143) -/

/-- The data of a response with two strings is the strings and their two length bytes. -/
theorem length_fieldsBody_pair (s t : Bytes) : (fieldsBody [s, t]).length = 2 + s.length + t.length := by
  simp [length_fieldsBody]
  omega

/-- Where no field and no data is too long, the encoder gives the payload, with its sum behind it when asked. -/
theorem buildResponse_eq_some {fields : List Bytes} (hf : ∀ f ∈ fields, f.length ≤ 255)
    (hd : (fieldsBody fields).length ≤ 255) (tag : Byte) (ck : Bool) :
    buildResponse tag fields ck =
      some (if ck then rpcPayload tag (fieldsBody fields) ++ [sum8 (rpcPayload tag (fieldsBody fields))]
        else rpcPayload tag (fieldsBody fields)) := by
  have not_refused : buildResponse tag fields ck ≠ none := by
    rw [Ne, buildResponse_eq_none_iff]
    rintro (⟨f, hmem, field_long⟩ | data_long)
    · exact absurd (hf f hmem) (Nat.not_le.mpr field_long)
    · exact absurd hd (Nat.not_le.mpr data_long)
  obtain ⟨r, hr⟩ := Option.ne_none_iff_exists'.mp not_refused
  obtain ⟨-, r_eq⟩ := buildResponse_some hr
  rw [hr, r_eq]

end Sys2Proof.Machine

open Sys2Proof Sys2Proof.Machine

/-- Settles O12: two length bytes make the data two bytes longer than the strings, so 253 is where one data length byte
ends; with checksum, `decodeCommand_append_sum8` brings the decoding back to the payload alone. -/
theorem codecRoundTrip : Obligations.CodecRoundTrip := by
  unfold Obligations.CodecRoundTrip
  intro ssid pw flag
  have data_length := length_fieldsBody_pair ssid pw
  constructor
  · intro fits
    have fields_fit : ∀ f ∈ [ssid, pw], f.length ≤ 255 := by
      simp only [List.forall_mem_cons]
      exact ⟨by omega, by omega, by simp⟩
    have data_fits : (fieldsBody [ssid, pw]).length ≤ 255 := by omega
    have decoded : decodeCommand (rpcPayload 0x01#8 (fieldsBody [ssid, pw])) false = .wifiSettings ssid pw := by
      have body_eq : fieldsBody [ssid, pw] = field ssid ++ field pw ++ [] := by simp [fieldsBody]
      rw [body_eq]
      exact decodeCommand_wifiSettings (by simp; omega)
    refine ⟨_, buildResponse_eq_some fields_fit data_fits 0x01#8 flag, ?_⟩
    cases flag with
    | false => exact decoded
    | true => exact (decodeCommand_append_sum8 0x01#8 data_fits).trans decoded
  · intro too_long
    have data_long : 255 < (fieldsBody [ssid, pw]).length := by omega
    exact (buildResponse_eq_none_iff _ _ _).mpr (.inr data_long)

end

section
/-! PROOFS. The Response Emitter: a response is emitted where it fits and withheld where it does not. -/

namespace Sys2Proof.Machine

/-! ## Which responses fit (R142, R155) -/

/-- The emitter refuses exactly the responses that do not fit the wire format. -/
theorem responseRefused_eq_false_iff (fields : List Bytes) : responseRefused fields = false ↔ responseFits fields := by
  simp [responseRefused, responseFits]

/-- R177: a response of one field fits up to 252 bytes; its length byte is the 253rd byte of the data. -/
theorem responseFits_singleton (u : Bytes) : responseFits [u] ↔ u.length ≤ 252 := by
  rw [← responseRefused_eq_false_iff, responseRefused_single, decide_eq_false_iff_not, Nat.not_lt]

/-! ## What the emitter does (R153, R155) -/

/-- R153: a response that fits is appended as one frame; the fault flag keeps its value. -/
theorem emitResponse_of_fits {fields : List Bytes} (h : responseFits fields) (tag : Byte) (s : State) :
    s.emitResponse tag fields = { s with out := s.out ++ [.tx (responseFrame tag fields)] } := by
  have not_refused : responseRefused fields = false := (responseRefused_eq_false_iff fields).mpr h
  have one_frame : responseOutputs tag fields = [.tx (responseFrame tag fields)] := by
    simp [responseOutputs, not_refused, responseFrame, rpcPayload]
  rw [emitResponse_eq, one_frame, not_refused, Bool.or_false]

/-- R155: a response that does not fit sets the fault flag and appends nothing. -/
theorem emitResponse_of_not_fits {fields : List Bytes} (h : ¬ responseFits fields) (tag : Byte) (s : State) :
    s.emitResponse tag fields = { s with faultEncode := true } := by
  have refused : responseRefused fields = true := by
    rwa [← responseRefused_eq_false_iff, Bool.not_eq_false] at h
  have withheld : responseOutputs tag fields = [] := by simp [responseOutputs, refused]
  rw [emitResponse_eq, withheld, refused, List.append_nil, Bool.or_true]

/-- `EmitRpcResponse` goes on in the state the emitter leaves. -/
theorem exec_emitRpcResponse (tag : Byte) (fields : List Bytes) (s : State) :
    exec (.emitRpcResponse tag fields) s = .next (s.emitResponse tag fields) := rfl

/-- R177: `SendDeviceUrl` is the response with the URL as its one field. -/
theorem exec_sendDeviceUrl (tag : Byte) (s : State) :
    exec (.sendDeviceUrl tag) s = .next (s.emitResponse tag [s.env.deviceUrl]) := rfl

end Sys2Proof.Machine

open Sys2Proof Sys2Proof.Machine

/-- Settles O16: whether the response fits decides between the emitter's two next states; for the URL, whether it fits is
its length against 252. -/
theorem responseIsEmittedOrWithheld : Obligations.ResponseIsEmittedOrWithheld := by
  unfold Obligations.ResponseIsEmittedOrWithheld
  intro tag fields s
  rw [exec_emitRpcResponse, exec_sendDeviceUrl]
  refine ⟨?emitted, ?withheld, ?urlEmitted, ?urlWithheld⟩
  case emitted =>
    intro fits
    rw [emitResponse_of_fits fits]
  case withheld =>
    intro not_fits
    rw [emitResponse_of_not_fits not_fits]
  case urlEmitted =>
    intro url_short
    rw [emitResponse_of_fits ((responseFits_singleton _).mpr url_short)]
  case urlWithheld =>
    intro url_long
    rw [emitResponse_of_not_fits (mt (responseFits_singleton _).mp (Nat.not_le.mpr url_long))]

end

section
/-! PROOFS. The RPC state machine: the state frame, which responses fit in terms of their strings, and the whole next
state of every command. -/

namespace Sys2Proof.Machine

/-! ## The state frame (R151, R166) -/

/-- The state frame as R151 prints it is the frame of type 01 with the state value as payload. -/
theorem makeFrame_state (v : Byte) : makeFrame 0x01#8 [v] = stateFrame v := by
  have checksum : sum8 (frameBody 0x01#8 [v]) = 0xE0#8 + v := by
    rw [sum8_frameBody]
    simp [sum8, lengthByte]
  rw [makeFrame_eq, checksum]
  rfl

/-- R166: `SetState` writes `prov_state` and appends the state frame, nothing else. -/
theorem enterState_eq (s : State) (v : Byte) :
    s.enterState v = { s with provState := v, out := s.out ++ [.tx (stateFrame v)] } := by
  rw [State.enterState, State.emitStateFrame, makeFrame_state]
  rfl

/-! ## Which responses fit (R35, R142, R258) -/

/-- A field is shorter than the data it stands in, which holds its length byte too (R91). -/
theorem length_lt_of_mem_fields {f : Bytes} {fields : List Bytes} (h : f ∈ fields) :
    f.length < (fieldsBody fields).length := by
  have part_le : f.length + 1 ≤ (fields.map fun g => g.length + 1).sum :=
    List.le_sum_of_mem (List.mem_map_of_mem h)
  rw [length_fieldsBody]
  exact part_le

/-- Whether a response fits is decided by the length of its data: a field beyond 255 bytes makes the data too long. -/
theorem responseFits_iff_length_data (fields : List Bytes) :
    responseFits fields ↔ (fieldsBody fields).length ≤ 253 := by
  refine ⟨And.right, fun data_fits => ⟨fun f hf => ?_, data_fits⟩⟩
  have field_lt := length_lt_of_mem_fields hf
  omega

/-- R35: the configuration's bound is that the device-info response fits. -/
theorem deviceInfoFits_iff (c : Config) :
    c.deviceInfoFits = true ↔ responseFits [c.fwName, c.fwVersion, c.chipFamily, c.devName] := by
  rw [responseFits_iff_length_data, length_fieldsBody, Config.deviceInfoFits, decide_eq_true_iff]
  simp only [List.map_cons, List.map_nil, List.sum_cons, List.sum_nil]
  omega

/-- R258: the bound on a network is that its response fits. -/
theorem networkFits_iff (e : ScanEntry) : networkFits e = true ↔ responseFits (networkTexts e) := by
  rw [responseFits_iff_length_data, length_fieldsBody, networkFits, decide_eq_true_iff]
  simp only [networkTexts, List.map_cons, List.map_nil, List.sum_cons, List.sum_nil]
  omega

/-! ## What a response puts out (R153, R155) -/

/-- R153: a response that fits is one frame. -/
theorem responseOutputs_of_fits {fields : List Bytes} (h : responseFits fields) (tag : Byte) :
    responseOutputs tag fields = [.tx (responseFrame tag fields)] := by
  rw [responseOutputs, (responseRefused_eq_false_iff fields).mpr h]
  rfl

/-- R155: a response that does not fit is refused. -/
theorem responseRefused_of_not_fits {fields : List Bytes} (h : ¬ responseFits fields) :
    responseRefused fields = true := by
  rwa [← responseRefused_eq_false_iff, Bool.not_eq_false] at h

/-- R155: a response that does not fit puts nothing out. -/
theorem responseOutputs_of_not_fits {fields : List Bytes} (h : ¬ responseFits fields) (tag : Byte) :
    responseOutputs tag fields = [] := by
  rw [responseOutputs, responseRefused_of_not_fits h, if_pos rfl]

/-- R175, R182: the fields of a network's response are its ssid and the two texts of the rule. -/
theorem networkFields_eq_networkTexts (e : ScanEntry) : networkFields e = networkTexts e := rfl

/-- R258: a network is skipped exactly where it does not fit. -/
theorem responseRefused_networkFields (e : ScanEntry) : responseRefused (networkFields e) = !networkFits e := by
  rw [networkFields_eq_networkTexts]
  cases fits : networkFits e with
  | true => exact (responseRefused_eq_false_iff _).mpr ((networkFits_iff e).mp fits)
  | false =>
    refine responseRefused_of_not_fits fun h => ?_
    rw [(networkFits_iff e).mpr h] at fits
    contradiction

/-- R175, R258: what one network adds to the answer. -/
theorem responseOutputs_networkFields (e : ScanEntry) :
    responseOutputs 0x04#8 (networkFields e) =
      if networkFits e then [.tx (responseFrame 0x04#8 (networkTexts e))] else [] := by
  rw [networkFields_eq_networkTexts]
  split
  next fits => exact responseOutputs_of_fits ((networkFits_iff e).mp fits) _
  next long => exact responseOutputs_of_not_fits (mt (networkFits_iff e).mpr long) _

/-- R175: over a scan list, the answers are one frame for each network that fits, in the order of the list. -/
theorem networkOutputs_eq (l : List ScanEntry) :
    (l.flatMap fun e => responseOutputs 0x04#8 (networkFields e)) =
      (l.filter networkFits).map fun e => .tx (responseFrame 0x04#8 (networkTexts e)) := by
  induction l with
  | nil => rfl
  | cons e r ih =>
    rw [List.flatMap_cons, responseOutputs_networkFields, ih, List.filter_cons]
    split <;> rfl

/-! ## The commands as instructions (R168) -/

/-- `WifiSettings` is answered from its two strings; the bytes after them are not looked at (R137). -/
theorem exec_wifiSettings (ssid pw tr : Bytes) (s : State) :
    exec (.wifiSettings ssid pw tr) s = .next (s.answerWifiSettings ssid pw) := rfl

/-- `GetCurrentState` does not look at its data (R138). -/
theorem exec_getCurrentState (d : Bytes) (s : State) :
    exec (.getCurrentState d) s = .next s.answerCurrentState := rfl

/-- `GetDeviceInfo` does not look at its data (R138). -/
theorem exec_getDeviceInfo (d : Bytes) (s : State) : exec (.getDeviceInfo d) s = .next s.answerDeviceInfo := rfl

/-- `GetWifiNetworks` does not look at its data (R138). -/
theorem exec_getWifiNetworks (d : Bytes) (s : State) :
    exec (.getWifiNetworks d) s = .next s.answerWifiNetworks := rfl

/-- `SetState` goes on in the state that it enters. -/
theorem exec_setState (v : Byte) (s : State) : exec (.setState v) s = .next (s.enterState v) := rfl

end Sys2Proof.Machine

open Sys2Proof Sys2Proof.Machine

/-- Settles O19: connectivity chooses between the two answers; when connected, the length of the URL against 252 decides
whether its response follows the state frame. -/
theorem getCurrentStateAnswers : Obligations.GetCurrentStateAnswers := by
  unfold Obligations.GetCurrentStateAnswers
  intro d s
  rw [exec_getCurrentState]
  refine ⟨?notConnected, ?urlSent, ?urlWithheld⟩
  case notConnected =>
    intro not_connected
    rw [answerCurrentState_disconnected not_connected, makeFrame_state]
  case urlSent =>
    intro connected url_short
    have fits : responseFits [s.env.deviceUrl] := (responseFits_singleton _).mpr url_short
    rw [answerCurrentState_connected connected, makeFrame_state, responseOutputs_of_fits fits,
      (responseRefused_eq_false_iff _).mpr fits, Bool.or_false]
  case urlWithheld =>
    intro connected url_long
    have not_fits : ¬ responseFits [s.env.deviceUrl] := mt (responseFits_singleton _).mp (Nat.not_le.mpr url_long)
    rw [answerCurrentState_connected connected, makeFrame_state, responseOutputs_of_not_fits not_fits,
      responseRefused_of_not_fits not_fits, Bool.or_true]

/-- Settles O21: the two strings fit their registers, so these hold them; the URL's response stands before the
notification where it fits and is missing where it does not. -/
theorem wifiSettingsSucceeds : Obligations.WifiSettingsSucceeds := by
  unfold Obligations.WifiSettingsSucceeds
  intro ssid pw tr s ssid_ne ssid_fits pw_fits answered
  have ssid_stored : fitText ssid = ssid := (fitText_spec ssid).2 ssid_fits
  have pw_stored : fitText pw = pw := (fitText_spec pw).2 pw_fits
  rw [exec_wifiSettings, answerWifiSettings_success ssid_ne answered, ssid_stored, pw_stored, makeFrame_state,
    makeFrame_state, makeFrame_error]
  constructor
  · intro url_short
    have fits : responseFits [s.env.deviceUrl] := (responseFits_singleton _).mpr url_short
    rw [responseOutputs_of_fits fits, (responseRefused_eq_false_iff _).mpr fits, Bool.or_false]
    rfl
  · intro url_long
    have not_fits : ¬ responseFits [s.env.deviceUrl] := mt (responseFits_singleton _).mp (Nat.not_le.mpr url_long)
    rw [responseOutputs_of_not_fits not_fits, responseRefused_of_not_fits not_fits, Bool.or_true, List.append_nil]
    rfl

/-- Settles O22: the failure path as `answerWifiSettings_failure` lists it, with the frames as R151 and R152 print
them. -/
theorem wifiSettingsFails : Obligations.WifiSettingsFails := by
  unfold Obligations.WifiSettingsFails
  intro ssid pw tr s ssid_ne failed
  rw [exec_wifiSettings, answerWifiSettings_failure ssid_ne failed, makeFrame_state, makeFrame_state,
    errorOutputs_eq_raised]

/-- Settles O23: the bound of R35 is the condition under which the emitter sends the four strings. -/
theorem deviceInfoAnswers : Obligations.DeviceInfoAnswers := by
  unfold Obligations.DeviceInfoAnswers
  intro d s
  rw [exec_getDeviceInfo, State.answerDeviceInfo]
  constructor
  · intro fits
    rw [emitResponse_of_fits ((deviceInfoFits_iff s.cfg).mp fits)]
  · intro long
    have not_fits : ¬ s.cfg.deviceInfoFits = true := Bool.eq_false_iff.mp long
    rw [emitResponse_of_not_fits (mt (deviceInfoFits_iff s.cfg).mpr not_fits)]

/-- Settles O24: the outputs are those of `networkOutputs_eq`, by induction on the scan list, and then the terminator;
the fault flag is set where one network is refused. -/
theorem networkListAnswers : Obligations.NetworkListAnswers := by
  unfold Obligations.NetworkListAnswers
  intro d s
  have terminator : makeFrame 0x04#8 [0x04#8, 0x00#8] =
      [0x49#8, 0x4D#8, 0x50#8, 0x52#8, 0x4F#8, 0x56#8, 0x01#8, 0x04#8, 0x02#8, 0x04#8, 0x00#8, 0xE8#8] := by decide
  rw [exec_getWifiNetworks, answerWifiNetworks_eq, networkOutputs_eq, terminator, ← List.append_assoc]
  simp only [responseRefused_networkFields]

/-- Settles O17: `enterState_eq` is the rule, for every old value. -/
theorem setStateWritesAndEmits : Obligations.SetStateWritesAndEmits := by
  unfold Obligations.SetStateWritesAndEmits
  intro v s
  rw [exec_setState, enterState_eq]

/-- Settles O20: the empty ssid is refused before anything is written; only `InvalidRpc` is raised. -/
theorem emptySsidIsRefused : Obligations.EmptySsidIsRefused := by
  unfold Obligations.EmptySsidIsRefused
  intro pw tr s
  rw [exec_wifiSettings, answerWifiSettings_empty, errorOutputs_eq_raised]

end

section
/-! PROOFS. The Connection Manager: the parts of a tick where they are selected, the end of an attempt, the give-up report
and the two edges of connectivity. -/

namespace Sys2Proof.Machine

/-! ## The parts of a tick where they are selected (R195 to R199) -/

/-- R195: JOINING and connected, the attempt succeeds. -/
theorem exec_cmSuccess {s : State} (joining : s.cmPhase = .joining) (connected : s.env.netConnected = true) :
    exec .cmSuccess s = .next s.cycleSuccess := if_pos ⟨joining, connected⟩

/-- R240: the comparison of the deadline is on the distance modulo 2^32. -/
theorem reached_iff (now d : Time) : reached now d = true ↔ (now - d).toNat < 2 ^ 31 := decide_eq_true_iff

/-- R196: JOINING and not connected, the deadline ends the attempt. -/
theorem exec_cmTimeout {s : State} (joining : s.cmPhase = .joining) (not_connected : s.env.netConnected = false)
    (late : (s.env.now - s.attemptDeadline).toNat < 2 ^ 31) : exec .cmTimeout s = .next s.cycleTimeout :=
  if_pos ⟨joining, not_connected, (reached_iff _ _).mpr late⟩

/-- R197: the counter at `MAX_RETRIES` is exhaustion. -/
theorem exec_cmExhaustion {s : State} (used_up : s.retriesDone = s.cfg.maxRetries) :
    exec .cmExhaustion s = .next s.exhaust := if_pos used_up

/-- R198: IDLE and `failed`, the tick reports that it gives up. -/
theorem exec_cmGiveUp {s : State} (idle : s.cmPhase = .idle) (failed : s.failed = true) :
    exec .cmGiveUp s = .next s.giveUp := if_pos ⟨idle, failed⟩

/-- R199: connectivity that differs from the last observed value is an edge. -/
theorem exec_cmEdge {s : State} (changed : s.env.netConnected ≠ s.lastConnected) :
    exec .cmEdge s = .next (s.edge s.env.netConnected) := if_pos changed

/-! ## The timeout of an attempt (R196, R197) -/

/-- R196: below `MAX_RETRIES` the timeout counts, and the next tick may start another cycle. -/
theorem cycleTimeout_of_ne {s : State} (h : s.countedRetry ≠ s.cfg.maxRetries) :
    s.cycleTimeout = { s with retriesDone := s.countedRetry, cmPhase := .idle } := by
  obtain ⟨last, -⟩ | ⟨-, next_eq⟩ := cycleTimeout_cases s
  · exact absurd last h
  · exact next_eq

/-- R197: the timeout that reaches `MAX_RETRIES` sets `failed` and notifies the error observers. -/
theorem cycleTimeout_of_eq {s : State} (h : s.countedRetry = s.cfg.maxRetries) :
    s.cycleTimeout = { s with
      retriesDone := s.countedRetry, cmPhase := .idle, failed := true,
      out := s.out ++ notification s.cfg.errorObservers (.error 3) } := by
  obtain ⟨-, next_eq⟩ | ⟨not_last, -⟩ := cycleTimeout_cases s
  · exact next_eq
  · exact absurd h not_last

/-! ## The two edges of connectivity (R199) -/

/-- R199: a rising edge announces the cached credentials, or two empty strings, and clears the counter and `failed`. -/
theorem edge_rising (s : State) :
    s.edge true = { s with
      retriesDone := 0#8, failed := false, lastConnected := true,
      out := s.out ++ notification s.cfg.connectedObservers
        (if s.credValid then .connected s.credSsid s.credPassword else .connected [] []) } := by
  have announced : ObsEvent.connected s.cachedCredentials.1 s.cachedCredentials.2 =
      if s.credValid then .connected s.credSsid s.credPassword else .connected [] [] := by
    rw [State.cachedCredentials]
    split <;> rfl
  rw [← announced]
  rfl

/-- R199: a falling edge announces the loss and leaves the counter and `failed` alone. -/
theorem edge_falling (s : State) :
    s.edge false = { s with
      lastConnected := false, out := s.out ++ notification s.cfg.disconnectedObservers .disconnected } := rfl

end Sys2Proof.Machine

open Sys2Proof Sys2Proof.Machine

/-- Settles O42: `n` is the counted retry, and whether it is `MAX_RETRIES` chooses between the two next states of a
timeout; the last of them puts out what exhaustion alone does. -/
theorem attemptEnds : Obligations.AttemptEnds := by
  unfold Obligations.AttemptEnds
  intro s
  refine ⟨?success, ?timeout, ?exhaustion⟩
  case success =>
    intro joining connected
    rw [exec_cmSuccess joining connected, cycleSuccess_eq, notification]
  case timeout =>
    intro joining not_connected late
    rw [exec_cmTimeout joining not_connected late]
    refine ⟨s.countedRetry, toNat_countedRetry, fun not_last => ?_, fun last => ?_⟩
    · rw [cycleTimeout_of_ne not_last]
    · rw [cycleTimeout_of_eq last]
  case exhaustion =>
    intro used_up
    rw [exec_cmExhaustion used_up, exhaust_eq, notification]

/-- Settles O43: the sampled connectivity says which of the two edges it is. -/
theorem giveUpAndEdges : Obligations.GiveUpAndEdges := by
  unfold Obligations.GiveUpAndEdges
  intro s
  refine ⟨?giveUp, ?rising, ?falling⟩
  case giveUp =>
    intro idle failed
    rw [exec_cmGiveUp idle failed, giveUp_eq, notification]
  case rising =>
    intro connected was_not
    have changed : s.env.netConnected ≠ s.lastConnected := by simp [connected, was_not]
    rw [exec_cmEdge changed, connected, edge_rising]
  case falling =>
    intro not_connected was
    have changed : s.env.netConnected ≠ s.lastConnected := by simp [not_connected, was]
    rw [exec_cmEdge changed, not_connected, edge_falling]

end

section
/-! PROOFS. The frame decoder: it reads exactly the frames that the encoder writes, and a frame with a changed byte is
none of them. -/

namespace Sys2Proof

/-! ## Frame instructions (R84, R85) -/

/-- Every type byte gives a row of the format FRAME. -/
@[simp] theorem format_frameInstr (t : Byte) (p : Bytes) : (frameInstr t p).format = .frame := by
  unfold frameInstr
  split_ifs <;> rfl

/-- The encoding of a type's row is the frame of that type. -/
@[simp] theorem encode_frameInstr (t : Byte) (p : Bytes) : encode (frameInstr t p) = some (makeFrame t p) := by
  unfold frameInstr
  split_ifs <;> simp_all [encode]

/-- A type's row is well-formed where a length byte can say the payload's length: the type picks the right row. -/
@[simp] theorem wellFormed_frameInstr (t : Byte) (p : Bytes) :
    (frameInstr t p).wellFormed = decide (p.length ≤ 255) := by
  unfold frameInstr
  split_ifs <;> simp_all [Instr.wellFormed, assigned]

/-- Every well-formed frame instruction is the row of a type byte. -/
theorem exists_frameInstr {i : Instr} (hf : i.format = .frame) (hw : i.wellFormed = true) :
    ∃ t p, p.length ≤ 255 ∧ i = frameInstr t p := by
  cases i with
  | currentState p => exact ⟨0x01#8, p, of_decide_eq_true hw, rfl⟩
  | errorState p => exact ⟨0x02#8, p, of_decide_eq_true hw, rfl⟩
  | rpcCommand p => exact ⟨0x03#8, p, of_decide_eq_true hw, rfl⟩
  | rpcResponse p => exact ⟨0x04#8, p, of_decide_eq_true hw, rfl⟩
  | frameReservedType t p =>
    simp only [Instr.wellFormed, Bool.and_eq_true, Bool.not_eq_true', decide_eq_true_eq] at hw
    exact ⟨t, p, hw.2, (frameInstr_reserved hw.1 p).symm⟩
  | _ => exact absurd hf (by simp [Instr.format])

/-! ## What the frame decoder reads (R80, R83, R95) -/

/-- A frame at the front of a stream is read, and the bytes after it are left. -/
theorem decodeFrame_makeFrame {p : Bytes} (h : p.length ≤ 255) (t : Byte) (rest : Bytes) :
    decodeFrame (makeFrame t p ++ rest) = .ok (frameInstr t p, rest) := by
  have stream : makeFrame t p ++ rest =
      preamble ++ version :: t :: lengthByte p.length :: (p ++ sum8 (frameBody t p) :: rest) := by
    simp [makeFrame_eq]
  have before_checksum : (makeFrame t p ++ rest).take (9 + p.length) = frameBody t p := by
    rw [← length_frameBody t p, makeFrame, List.append_assoc, List.take_left]
  have preamble_right : (makeFrame t p ++ rest).take 6 = preamble.take (makeFrame t p ++ rest).length := by
    rw [stream, ← length_preamble, List.take_left, List.take_of_length_le (by simp)]
  have after_preamble : (makeFrame t p ++ rest).drop 6 =
      version :: t :: lengthByte p.length :: (p ++ sum8 (frameBody t p) :: rest) := by
    rw [stream, ← length_preamble, List.drop_left]
  simp [decodeFrame, preamble_right, after_preamble, toNat_lengthByte h, before_checksum]

/-- Whatever the frame decoder reads is a frame, at the front of the bytes it was given. -/
theorem makeFrame_of_decodeFrame {bs rest : Bytes} {i : Instr} (h : decodeFrame bs = .ok (i, rest)) :
    ∃ t p, p.length ≤ 255 ∧ i = frameInstr t p ∧ bs = makeFrame t p ++ rest := by
  unfold decodeFrame at h
  split at h
  · contradiction
  next preamble_right =>
  split at h
  · contradiction
  next v r after_preamble =>
  split at h
  · contradiction
  next version_right =>
  split at h
  case h_2 => contradiction
  next t l body =>
  split at h
  · contradiction
  next ck rest' after_payload =>
  split at h
  case isFalse => contradiction
  next checksum_right =>
  simp only [Except.ok.injEq, Prod.mk.injEq] at h
  obtain ⟨rfl, rfl⟩ := h
  rw [ne_eq, not_not] at version_right
  have l_lt := l.isLt
  have long_enough : 6 < bs.length := by
    have := congrArg List.length after_preamble
    simp only [List.length_drop, List.length_cons] at this
    omega
  have payload_there : l.toNat < body.length := by
    have := congrArg List.length after_payload
    simp only [List.length_drop, List.length_cons] at this
    omega
  have payload_length : (body.take l.toNat).length = l.toNat := by
    rw [List.length_take]
    omega
  have length_byte : lengthByte (body.take l.toNat).length = l := by
    rw [payload_length, lengthByte, BitVec.ofNat_toNat, BitVec.setWidth_eq]
  have body_eq : bs = frameBody t (body.take l.toNat) ++ ck :: rest' := by
    have preamble_read : bs.take 6 = preamble := by
      simpa [List.take_of_length_le (l := preamble) (i := bs.length) (by simp; omega)] using preamble_right
    calc bs = bs.take 6 ++ bs.drop 6 := (List.take_append_drop 6 bs).symm
      _ = preamble ++ version :: t :: l :: (body.take l.toNat ++ body.drop l.toNat) := by
        rw [preamble_read, after_preamble, version_right, List.take_append_drop]
      _ = frameBody t (body.take l.toNat) ++ ck :: rest' := by
        rw [after_payload, frameBody, length_byte]
        simp
  have before_checksum : bs.take (9 + l.toNat) = frameBody t (body.take l.toNat) := by
    have position : 9 + l.toNat = (frameBody t (body.take l.toNat)).length := by
      rw [length_frameBody, payload_length]
    rw [position, body_eq, List.take_left]
  refine ⟨t, body.take l.toNat, by omega, rfl, ?_⟩
  rw [makeFrame, ← before_checksum, ← checksum_right, before_checksum, List.append_assoc]
  exact body_eq

/-! ## One changed byte (R123) -/

/-- One changed byte changes the sum. -/
theorem sum8_set_ne {xs : Bytes} {k : Nat} {v : Byte} (hk : k < xs.length) (hv : xs[k]? ≠ some v) :
    sum8 (xs.set k v) ≠ sum8 xs := by
  intro same_sum
  have moved := sum8_set xs k v hk
  rw [same_sum, BitVec.add_right_inj] at moved
  exact hv (by rw [List.getElem?_eq_getElem hk, moved])

/-- A change before the checksum leaves the checksum. -/
theorem set_makeFrame {t : Byte} {p : Bytes} {k : Nat} (h : k < 9 + p.length) (v : Byte) :
    (makeFrame t p).set k v = (frameBody t p).set k v ++ [sum8 (frameBody t p)] := by
  rw [makeFrame, List.set_append_left _ _ (by simpa using h)]

/-- The byte of a frame before its checksum. -/
theorem getElem?_makeFrame {t : Byte} {p : Bytes} {k : Nat} (h : k < 9 + p.length) :
    (makeFrame t p)[k]? = (frameBody t p)[k]? := by
  rw [makeFrame, List.getElem?_append_left (by simpa using h)]

end Sys2Proof

open Sys2Proof

/-- Settles O2: every well-formed frame instruction is the row of a type, and `decodeFrame_makeFrame` reads its
frame. -/
theorem frameDecodesToWhatWasEncoded : Obligations.FrameDecodesToWhatWasEncoded := by
  unfold Obligations.FrameDecodesToWhatWasEncoded
  intro i rest is_frame well_formed
  obtain ⟨t, p, fits, rfl⟩ := exists_frameInstr is_frame well_formed
  exact ⟨_, encode_frameInstr t p, decodeFrame_makeFrame fits t rest⟩

/-- Settles O4: what was read is a frame by `makeFrame_of_decodeFrame`. -/
theorem decodedFrameReencodes : Obligations.DecodedFrameReencodes := by
  unfold Obligations.DecodedFrameReencodes
  intro bs rest i decoded
  obtain ⟨t, p, fits, rfl, bs_eq⟩ := makeFrame_of_decodeFrame decoded
  exact ⟨format_frameInstr t p, by simpa using fits, _, encode_frameInstr t p, bs_eq⟩

/-- Settles O7: a frame that ends where the old one ended has the old checksum over bytes with another sum. -/
theorem mutatedFrameIsNoFrame : Obligations.MutatedFrameIsNoFrame := by
  unfold Obligations.MutatedFrameIsNoFrame
  intro t p k v fits before_checksum changed i decoded
  obtain ⟨t', p', -, -, is_frame⟩ := makeFrame_of_decodeFrame decoded
  rw [List.append_nil, set_makeFrame before_checksum, makeFrame] at is_frame
  obtain ⟨same_body, same_checksum⟩ := List.append_inj' is_frame (by simp)
  rw [getElem?_makeFrame before_checksum] at changed
  refine sum8_set_ne (by simpa using before_checksum) changed ?_
  rw [same_body]
  exact (List.singleton_inj.mp same_checksum).symm

end

section
/-! PROOFS. The payload decoders: which bytes are which RPC instruction, and that the instruction decoder, `Decode` and
the opcode table agree on them. -/

namespace Sys2Proof

/-! ## Two strings at the front of the data (R135, R136) -/

/-- The two strings at the front of the data and the bytes after them, read one field after the other. -/
def parseTwoFields (a : Bytes) : Option (Bytes × Bytes × Bytes) :=
  (parseField a).bind fun x => (parseField x.2).map fun y => (x.1, y.1, y.2)

/-- Two strings are read exactly where they stand. -/
theorem parseTwoFields_eq_some_iff {a ssid pw tr : Bytes} :
    parseTwoFields a = some (ssid, pw, tr) ↔
      ssid.length ≤ 255 ∧ pw.length ≤ 255 ∧ a = field ssid ++ field pw ++ tr := by
  constructor
  · intro h
    obtain ⟨⟨s, r⟩, first, h⟩ := Option.bind_eq_some_iff.mp h
    obtain ⟨⟨w, t⟩, second, h⟩ := Option.map_eq_some_iff.mp h
    simp only [Prod.mk.injEq] at h
    obtain ⟨rfl, rfl, rfl⟩ := h
    obtain ⟨a_eq, ssid_fits⟩ := field_of_parseField first
    obtain ⟨(r_eq : r = _), pw_fits⟩ := field_of_parseField second
    exact ⟨ssid_fits, pw_fits, by rw [a_eq, r_eq, List.append_assoc]⟩
  · rintro ⟨ssid_fits, pw_fits, rfl⟩
    simp [parseTwoFields, List.append_assoc, parseField_field ssid_fits, parseField_field pw_fits]

/-- The bounds of R136 say that two strings are read. -/
theorem holdsTwoFields_eq (a : Bytes) : holdsTwoFields a = (parseTwoFields a).isSome := by
  cases a with
  | nil => rfl
  | cons n r =>
    by_cases first : n.toNat ≤ r.length
    · cases rest : r.drop n.toNat with
      | nil => simp [holdsTwoFields, parseTwoFields, parseField, first, rest]
      | cons m q =>
        by_cases second : m.toNat ≤ q.length <;>
          simp [holdsTwoFields, parseTwoFields, parseField, first, rest, second]
    · simp [holdsTwoFields, parseTwoFields, parseField, first, List.drop_eq_nil_of_le (Nat.le_of_not_le first)]

/-! ## The instruction of a payload (R88 to R92, R132) -/

/-- Which bytes are the payload of which RPC instruction: the layout of R88 to R92 with what R132 and R136 leave out. -/
inductive PayloadOf : Instr → Bytes → Prop
  | wifiSettings {ssid pw tr : Bytes} (fits : 2 + ssid.length + pw.length + tr.length ≤ 255) :
      PayloadOf (.wifiSettings ssid pw tr) (rpcPayload 0x01#8 (field ssid ++ field pw ++ tr))
  | getCurrentState {d : Bytes} (fits : d.length ≤ 255) : PayloadOf (.getCurrentState d) (rpcPayload 0x02#8 d)
  | getDeviceInfo {d : Bytes} (fits : d.length ≤ 255) : PayloadOf (.getDeviceInfo d) (rpcPayload 0x03#8 d)
  | getWifiNetworks {d : Bytes} (fits : d.length ≤ 255) : PayloadOf (.getWifiNetworks d) (rpcPayload 0x04#8 d)
  | rpcReservedCommand {c : Byte} {d : Bytes} (reserved : assigned c = false) (fits : d.length ≤ 255) :
      PayloadOf (.rpcReservedCommand c d) (rpcPayload c d)
  | rpcMalformed {p : Bytes} (malformed : malformedPayload p = true) : PayloadOf (.rpcMalformed p) p

/-- A payload whose length byte is right is read by its command. -/
theorem decodeRpc_rpcPayload {d : Bytes} (h : d.length ≤ 255) (c : Byte) :
    decodeRpc (rpcPayload c d) = rpcInstr (rpcPayload c d) c d := by
  simp [decodeRpc, rpcPayload, toNat_lengthByte h]

/-- The data of `WifiSettings` that begins with two strings. -/
theorem rpcInstr_wifiSettings {a ssid pw tr : Bytes} (h : parseTwoFields a = some (ssid, pw, tr)) (p : Bytes) :
    rpcInstr p 0x01#8 a = .wifiSettings ssid pw tr := by
  obtain ⟨ssid_fits, pw_fits, rfl⟩ := parseTwoFields_eq_some_iff.mp h
  simp [rpcInstr, List.append_assoc, parseField_field ssid_fits, parseField_field pw_fits]

/-- The data of `WifiSettings` that does not begin with two strings. -/
theorem rpcInstr_malformed {a : Bytes} (h : parseTwoFields a = none) (p : Bytes) :
    rpcInstr p 0x01#8 a = .rpcMalformed p := by
  simp only [rpcInstr, if_true]
  cases first : parseField a with
  | none => rfl
  | some x =>
    have second : parseField x.2 = none := by simpa [parseTwoFields, first] using h
    simp [second]

/-- The unassigned values, one by one (R84, R89). -/
theorem assigned_eq_false_iff (v : Byte) :
    assigned v = false ↔ v ≠ 0x01#8 ∧ v ≠ 0x02#8 ∧ v ≠ 0x03#8 ∧ v ≠ 0x04#8 := by
  simp [assigned, and_assoc]

/-- An unassigned command byte. -/
theorem rpcInstr_reserved {c : Byte} (h : assigned c = false) (p a : Bytes) :
    rpcInstr p c a = .rpcReservedCommand c a := by
  rw [assigned_eq_false_iff] at h
  simp [rpcInstr, h]

/-- The layouts are read as the instructions they are given for. -/
theorem decodeRpc_of_payloadOf {i : Instr} {p : Bytes} (h : PayloadOf i p) : decodeRpc p = i := by
  cases h with
  | wifiSettings fits =>
    rw [decodeRpc_rpcPayload (by simp only [List.length_append, length_field]; omega)]
    exact rpcInstr_wifiSettings (parseTwoFields_eq_some_iff.mpr ⟨by omega, by omega, rfl⟩) _
  | getCurrentState fits => exact decodeRpc_rpcPayload fits _
  | getDeviceInfo fits => exact decodeRpc_rpcPayload fits _
  | getWifiNetworks fits => exact decodeRpc_rpcPayload fits _
  | rpcReservedCommand reserved fits => rw [decodeRpc_rpcPayload fits, rpcInstr_reserved reserved]
  | rpcMalformed malformed =>
    match p, malformed with
    | [], _ => rfl
    | [_], _ => rfl
    | c :: d :: a, malformed =>
      by_cases counted : d.toNat = a.length
      · simp only [malformedPayload, counted, ne_eq, not_true, decide_false, Bool.false_or, Bool.and_eq_true,
          decide_eq_true_eq, holdsTwoFields_eq, Bool.not_eq_true', Option.isSome_eq_false_iff,
          Option.isNone_iff_eq_none] at malformed
        obtain ⟨rfl, no_strings⟩ := malformed
        simp only [decodeRpc, counted, if_true, rpcInstr_malformed no_strings]
      · simp only [decodeRpc, counted, if_false]

/-- Every payload has the layout of the instruction it is read as. -/
theorem payloadOf_decodeRpc (p : Bytes) : PayloadOf (decodeRpc p) p := by
  by_cases malformed : malformedPayload p = true
  · have layout := PayloadOf.rpcMalformed malformed
    rwa [decodeRpc_of_payloadOf layout]
  match p, malformed with
  | [], malformed => exact absurd rfl malformed
  | [_], malformed => exact absurd rfl malformed
  | c :: d :: a, malformed =>
    simp only [malformedPayload, ne_eq, Bool.or_eq_true, decide_eq_true_eq, Bool.and_eq_true, Bool.not_eq_true',
      not_or, not_not, not_and, Bool.not_eq_false, holdsTwoFields_eq] at malformed
    obtain ⟨counted, strings⟩ := malformed
    have d_lt := d.isLt
    have fits : a.length ≤ 255 := by omega
    have payload_eq : c :: d :: a = rpcPayload c a := by
      rw [rpcPayload, lengthByte, ← counted, BitVec.ofNat_toNat, BitVec.setWidth_eq]
    rw [payload_eq]
    cases unassigned : assigned c with
    | false =>
      have layout := PayloadOf.rpcReservedCommand unassigned fits
      rwa [decodeRpc_of_payloadOf layout]
    | true =>
      simp only [assigned, Bool.or_eq_true, decide_eq_true_eq] at unassigned
      obtain ((rfl | rfl) | rfl) | rfl := unassigned
      · obtain ⟨⟨ssid, pw, tr⟩, read⟩ := Option.isSome_iff_exists.mp (strings rfl)
        obtain ⟨-, -, rfl⟩ := parseTwoFields_eq_some_iff.mp read
        simp only [List.length_append, length_field] at fits
        have layout : PayloadOf (.wifiSettings ssid pw tr) _ := .wifiSettings (by omega)
        rwa [decodeRpc_of_payloadOf layout]
      · rw [decodeRpc_of_payloadOf (.getCurrentState fits)]
        exact .getCurrentState fits
      · rw [decodeRpc_of_payloadOf (.getDeviceInfo fits)]
        exact .getDeviceInfo fits
      · rw [decodeRpc_of_payloadOf (.getWifiNetworks fits)]
        exact .getWifiNetworks fits

/-- The encoding of a well-formed RPC instruction has its layout. -/
theorem payloadOf_encode {i : Instr} (hf : i.format = .rpc) (hw : i.wellFormed = true) :
    ∃ w, encode i = some w ∧ PayloadOf i w := by
  cases i with
  | wifiSettings ssid pw tr =>
    simp only [Instr.wellFormed, decide_eq_true_eq] at hw
    exact ⟨_, rfl, .wifiSettings (by omega)⟩
  | getCurrentState d =>
    simp only [Instr.wellFormed, decide_eq_true_eq] at hw
    exact ⟨_, rfl, .getCurrentState (by omega)⟩
  | getDeviceInfo d =>
    simp only [Instr.wellFormed, decide_eq_true_eq] at hw
    exact ⟨_, rfl, .getDeviceInfo (by omega)⟩
  | getWifiNetworks d =>
    simp only [Instr.wellFormed, decide_eq_true_eq] at hw
    exact ⟨_, rfl, .getWifiNetworks (by omega)⟩
  | rpcReservedCommand c d =>
    simp only [Instr.wellFormed, Bool.and_eq_true, Bool.not_eq_true', decide_eq_true_eq] at hw
    exact ⟨_, rfl, .rpcReservedCommand hw.1 (by omega)⟩
  | rpcMalformed p =>
    simp only [Instr.wellFormed, Bool.and_eq_true] at hw
    exact ⟨_, rfl, .rpcMalformed hw.2⟩
  | _ => exact absurd hf (by simp [Instr.format])

/-- A payload that fits a frame is the encoding of a well-formed instruction of its layout. -/
theorem wellFormed_of_payloadOf {i : Instr} {p : Bytes} (h : PayloadOf i p) (hp : p.length ≤ 255) :
    i.format = .rpc ∧ i.wellFormed = true ∧ encode i = some p := by
  cases h with
  | wifiSettings fits =>
    simp only [length_rpcPayload, List.length_append, length_field] at hp
    exact ⟨rfl, decide_eq_true (by omega), rfl⟩
  | getCurrentState fits =>
    rw [length_rpcPayload] at hp
    exact ⟨rfl, decide_eq_true (by omega), rfl⟩
  | getDeviceInfo fits =>
    rw [length_rpcPayload] at hp
    exact ⟨rfl, decide_eq_true (by omega), rfl⟩
  | getWifiNetworks fits =>
    rw [length_rpcPayload] at hp
    exact ⟨rfl, decide_eq_true (by omega), rfl⟩
  | rpcReservedCommand reserved fits =>
    rw [length_rpcPayload] at hp
    have data_fits : _ ≤ 253 := Nat.le_of_add_le_add_right hp
    exact ⟨rfl, by simp [Instr.wellFormed, reserved, data_fits], rfl⟩
  | rpcMalformed malformed => exact ⟨rfl, by simp [Instr.wellFormed, malformed, hp], rfl⟩

/-! ## The opcode table's rows (R96) -/

/-- A byte that is compared as a whole. -/
@[simp] theorem and_ones (b : Byte) : b &&& 0xFF#8 = b := BitVec.and_allOnes

/-- The FRAME row of a type byte is the first whose pattern the header matches. -/
theorem selectRow_frameRows (t : Byte) (p : Bytes) :
    selectRow frameRows [0x49#8, 0x4D#8, 0x50#8, 0x52#8, 0x4F#8, 0x56#8, 0x01#8, t] =
      some (frameInstr t p).mnemonic := by
  unfold frameInstr
  split_ifs <;>
    simp_all [selectRow, frameRows, patternMatches, preamble, Instr.mnemonic, List.replicate]

/-- The RPC row of a layout's command byte is the first whose pattern it matches. -/
theorem selectRow_rpcRows {i : Instr} {p : Bytes} (h : PayloadOf i p) (hm : ∀ q, i ≠ .rpcMalformed q) :
    selectRow rpcRows (p.take 1) = some i.mnemonic := by
  cases h with
  | wifiSettings => rfl
  | getCurrentState => rfl
  | getDeviceInfo => rfl
  | getWifiNetworks => rfl
  | rpcReservedCommand reserved =>
    rw [assigned_eq_false_iff] at reserved
    simp [selectRow, rpcRows, patternMatches, rpcPayload, Instr.mnemonic, reserved]
  | rpcMalformed => exact absurd rfl (hm p)

namespace Machine

/-! ## `Decode` on a payload (R131 to R139) -/

/-- The byte at an index that is there. -/
theorem byteAt_of_getElem? {p : Bytes} {k : Nat} {b : Byte} (h : p[k]? = some b) : byteAt p k = b := by
  simp [byteAt, h]

/-- R132: too few bytes for the header and the checksum, or a data length byte that says something else. -/
theorem decodeCommand_wrong_length {p : Bytes} {check : Bool}
    (h : p.length < 2 + (if check then 1 else 0) ∨
      ∃ d, p[1]? = some d ∧ d.toNat + 2 + (if check then 1 else 0) ≠ p.length) :
    decodeCommand p check = .unknown := by
  unfold decodeCommand
  by_cases short : p.length < 2 + (if check then 1 else 0)
  · simp only [short, if_true]
  · obtain ⟨d, d_read, d_wrong⟩ := h.resolve_left short
    have count : (byteAt p 1).toNat ≠ p.length - 2 - (if check then 1 else 0) := by
      rw [byteAt_of_getElem? d_read]
      omega
    simp only [short, if_false, count, ne_eq, not_false_eq_true, if_true]

/-- R134: with the right length, a wrong checksum is found before the command byte is looked at. -/
theorem decodeCommand_wrong_checksum {p : Bytes} {d : Byte} (hd : p[1]? = some d) (hl : d.toNat + 3 = p.length)
    (hs : p.getLast? ≠ some (sum8 p.dropLast)) : decodeCommand p true = .badChecksum := by
  have long_enough : ¬ p.length < 3 := by omega
  have count : (byteAt p 1).toNat = p.length - 2 - 1 := by
    rw [byteAt_of_getElem? hd]
    omega
  have checksum : sum8 (p.take (p.length - 1)) ≠ byteAt p (p.length - 1) := by
    have last : p[p.length - 1]? = some p[p.length - 1] := List.getElem?_eq_getElem (by omega)
    rw [List.getLast?_eq_getElem?, last, Ne, Option.some.injEq, List.dropLast_eq_take] at hs
    rw [byteAt_of_getElem? last]
    exact Ne.symm hs
  simp [decodeCommand, long_enough, count, checksum]

/-- R133, R138: past the checks, a command byte other than 01 decides alone. -/
theorem decodeCommand_by_command {p : Bytes} {check : Bool} {d c : Byte} (hd : p[1]? = some d)
    (hl : d.toNat + 2 + (if check then 1 else 0) = p.length)
    (hs : check = false ∨ p.getLast? = some (sum8 p.dropLast)) (hc : p[0]? = some c) (h1 : c ≠ 0x01#8) :
    decodeCommand p check =
      if c = 0x02#8 then .getCurrentState else if c = 0x03#8 then .getDeviceInfo
      else if c = 0x04#8 then .getWifiNetworks else .unknown := by
  have long_enough : ¬ p.length < 2 + (if check then 1 else 0) := by omega
  have count : (byteAt p 1).toNat = p.length - 2 - (if check then 1 else 0) := by
    rw [byteAt_of_getElem? hd]
    omega
  have checksum : ¬ (check = true ∧ sum8 (p.take (p.length - 1)) ≠ byteAt p (p.length - 1)) := by
    rintro ⟨rfl, wrong⟩
    have right := hs.resolve_left (by simp)
    rw [List.getLast?_eq_getElem?, List.dropLast_eq_take] at right
    exact wrong (byteAt_of_getElem? right).symm
  simp only [decodeCommand, long_enough, count, checksum, byteAt_of_getElem? hc, h1, if_false, ne_eq, not_true,
    not_false_eq_true, if_true]

/-- A payload without checksum, its command byte not 01. -/
theorem decodeCommand_rpcPayload {c : Byte} {d : Bytes} (fits : d.length ≤ 255) (h1 : c ≠ 0x01#8) :
    decodeCommand (rpcPayload c d) false =
      if c = 0x02#8 then .getCurrentState else if c = 0x03#8 then .getDeviceInfo
      else if c = 0x04#8 then .getWifiNetworks else .unknown :=
  decodeCommand_by_command (d := lengthByte d.length) rfl (by simp [toNat_lengthByte fits]) (.inl rfl) rfl h1

/-- The bounds that `Decode` checks are those under which two strings are there (R136). -/
theorem holdsTwoFields_of_bounds {a : Bytes} (h1 : 1 ≤ a.length) (h2 : 1 + (byteAt a 0).toNat + 1 ≤ a.length)
    (h3 : 1 + (byteAt a 0).toNat + 1 + (byteAt a (1 + (byteAt a 0).toNat)).toNat ≤ a.length) :
    holdsTwoFields a = true := by
  match a, h1 with
  | n :: r, _ =>
    have ssid_length : byteAt (n :: r) 0 = n := rfl
    have pw_length : byteAt (n :: r) (1 + n.toNat) = (r.drop n.toNat).getD 0 0x00#8 := by
      simp [byteAt, Nat.add_comm 1]
    rw [ssid_length, pw_length, List.length_cons] at h3
    rw [ssid_length, List.length_cons] at h2
    have rest_length : (r.drop n.toNat).length = r.length - n.toNat := List.length_drop
    cases rest : r.drop n.toNat with
    | nil =>
      rw [rest, List.length_nil] at rest_length
      omega
    | cons m q =>
      rw [rest, List.length_cons] at rest_length
      rw [rest, List.getD_cons_zero] at h3
      simp only [holdsTwoFields, rest, decide_eq_true_eq]
      omega

/-- R136: data of `WifiSettings` that does not begin with two strings. -/
theorem decodeCommand_no_strings {a : Bytes} (fits : a.length ≤ 255) (h : holdsTwoFields a = false) :
    decodeCommand (rpcPayload 0x01#8 a) false = .unknown := by
  have tag : byteAt (rpcPayload 0x01#8 a) 0 = 0x01#8 := rfl
  have count : (byteAt (rpcPayload 0x01#8 a) 1).toNat = a.length := toNat_lengthByte fits
  have data : slice (rpcPayload 0x01#8 a) 2 (1 + a.length) = a := by simpa using slice_rpcPayload 0x01#8 a []
  have out_of_bounds : 1 ≤ a.length → 1 + (byteAt a 0).toNat + 1 ≤ a.length →
      a.length < 1 + (byteAt a 0).toNat + 1 + (byteAt a (1 + (byteAt a 0).toNat)).toNat := by
    intro h1 h2
    by_contra h3
    rw [holdsTwoFields_of_bounds h1 h2 (Nat.le_of_not_lt h3)] at h
    contradiction
  by_cases h1 : a.length < 1
  · simp [decodeCommand, tag, count, h1]
  · by_cases h2 : a.length < 1 + (byteAt a 0).toNat + 1
    · simp [decodeCommand, tag, count, data, h1, h2]
    · have h3 := out_of_bounds (by omega) (by omega)
      simp [decodeCommand, tag, count, data, h1, h2, h3]

/-- R132, R136: `Decode` knows no malformed payload. -/
theorem decodeCommand_malformed {p : Bytes} (h : malformedPayload p = true) : decodeCommand p false = .unknown := by
  match p, h with
  | [], _ => rfl
  | [_], _ => rfl
  | c :: d :: a, h =>
    by_cases counted : d.toNat = a.length
    · simp only [malformedPayload, counted, ne_eq, not_true, decide_false, Bool.false_or, Bool.and_eq_true,
        decide_eq_true_eq, Bool.not_eq_true'] at h
      obtain ⟨rfl, no_strings⟩ := h
      have d_lt := d.isLt
      have payload_eq : 0x01#8 :: d :: a = rpcPayload 0x01#8 a := by
        rw [rpcPayload, lengthByte, ← counted, BitVec.ofNat_toNat, BitVec.setWidth_eq]
      rw [payload_eq]
      exact decodeCommand_no_strings (by omega) no_strings
    · exact decodeCommand_wrong_length (.inr ⟨d, rfl, by simp; omega⟩)

/-- `Decode` without checksum gives the command of the layout's instruction. -/
theorem commandOf_of_payloadOf {i : Instr} {p : Bytes} (h : PayloadOf i p) : commandOf i = decodeCommand p false := by
  cases h with
  | wifiSettings fits => exact (decodeCommand_wifiSettings fits).symm
  | getCurrentState fits => exact (decodeCommand_rpcPayload (c := 0x02#8) fits (by decide)).symm
  | getDeviceInfo fits => exact (decodeCommand_rpcPayload (c := 0x03#8) fits (by decide)).symm
  | getWifiNetworks fits => exact (decodeCommand_rpcPayload (c := 0x04#8) fits (by decide)).symm
  | rpcReservedCommand reserved fits =>
    rw [assigned_eq_false_iff] at reserved
    rw [decodeCommand_rpcPayload fits (by simp [reserved])]
    simp [commandOf, reserved]
  | rpcMalformed malformed => exact (decodeCommand_malformed malformed).symm

/-- `Decode` answers, and writes no register. -/
theorem exec_decode (p : Bytes) (check : Bool) (s : State) :
    exec (.decode p check) s = .next { s with answer := .command (decodeCommand p check) } := rfl

/-- The encoder's answer where it has one. -/
theorem exec_buildRpcResponse_some {tag : Byte} {fields : List Bytes} {ck : Bool} {r : Bytes}
    (h : buildResponse tag fields ck = some r) (s : State) :
    exec (.buildRpcResponse tag fields ck) s = .next { s with answer := .bytes r } := by
  have exec_eq : exec (.buildRpcResponse tag fields ck) s = execBuildRpcResponse tag fields ck s := rfl
  rw [exec_eq, execBuildRpcResponse, h]

/-- The encoder's refusal. -/
theorem exec_buildRpcResponse_none {tag : Byte} {fields : List Bytes} {ck : Bool}
    (h : buildResponse tag fields ck = none) (s : State) :
    exec (.buildRpcResponse tag fields ck) s = .next { s with faultEncode := true, answer := .refused } := by
  have exec_eq : exec (.buildRpcResponse tag fields ck) s = execBuildRpcResponse tag fields ck s := rfl
  rw [exec_eq, execBuildRpcResponse, h]
  rfl

end Machine

end Sys2Proof

open Sys2Proof Sys2Proof.Machine

/-- Settles O3: an encoding has the layout of its instruction, and layouts are read back. -/
theorem payloadDecodesToWhatWasEncoded : Obligations.PayloadDecodesToWhatWasEncoded := by
  unfold Obligations.PayloadDecodesToWhatWasEncoded
  intro i is_rpc well_formed
  obtain ⟨w, encoded, layout⟩ := payloadOf_encode is_rpc well_formed
  exact ⟨w, encoded, decodeRpc_of_payloadOf layout⟩

/-- Settles O5: every payload has the layout of its instruction, and a layout that fits a frame is an encoding. -/
theorem decodedPayloadReencodes : Obligations.DecodedPayloadReencodes := by
  unfold Obligations.DecodedPayloadReencodes
  intro p fits
  exact wellFormed_of_payloadOf (payloadOf_decodeRpc p) fits

/-- Settles O6: the type byte and the command byte are what the rows of their format differ in. -/
theorem decodersFollowTheOpcodeTable : Obligations.DecodersFollowTheOpcodeTable := by
  unfold Obligations.DecodersFollowTheOpcodeTable
  refine ⟨selectRow_frameRows, ?_⟩
  intro c r not_malformed
  exact selectRow_rpcRows (payloadOf_decodeRpc (c :: r)) not_malformed

/-- Settles O9: one lemma for each of the three checks. -/
theorem decodeMakesItsChecksInOrder : Obligations.DecodeMakesItsChecksInOrder := by
  unfold Obligations.DecodeMakesItsChecksInOrder
  intro p check s
  refine ⟨decodeCommand p check, exec_decode p check s, decodeCommand_wrong_length, ?_⟩
  intro d d_read counted
  constructor
  · rintro ⟨rfl, wrong_checksum⟩
    exact decodeCommand_wrong_checksum d_read counted wrong_checksum
  · intro checked
    have by_command {c : Byte} (c_read : p[0]? = some c) (c_ne : c ≠ 0x01#8) :=
      decodeCommand_by_command d_read counted checked c_read c_ne
    refine ⟨fun c_read => by_command c_read (by decide), fun c_read => by_command c_read (by decide),
      fun c_read => by_command c_read (by decide), fun x c_read reserved => ?_⟩
    rw [assigned_eq_false_iff] at reserved
    rw [by_command c_read (by simp [reserved])]
    simp [reserved]

/-- Settles O10: the checksum at the end changes nothing (`decodeCommand_append_sum8`), so both parts are about the
payload alone. -/
theorem decodeReadsTwoFieldsOrGivesUnknown : Obligations.DecodeReadsTwoFieldsOrGivesUnknown := by
  unfold Obligations.DecodeReadsTwoFieldsOrGivesUnknown
  intro check s summed
  have alone {a : Bytes} (fits : a.length ≤ 255) :
      decodeCommand (summed (rpcPayload 0x01#8 a)) check = decodeCommand (rpcPayload 0x01#8 a) false := by
    cases check with
    | false => rfl
    | true => exact decodeCommand_append_sum8 0x01#8 fits
  constructor
  · intro ssid pw tr fits
    rw [exec_decode, alone (by simp only [List.length_append, length_field]; omega), decodeCommand_wifiSettings fits]
  · intro a fits no_strings
    have none_read : holdsTwoFields a = false := by
      rw [holdsTwoFields_eq, Option.isSome_eq_false_iff, Option.isNone_iff_eq_none, Option.eq_none_iff_forall_ne_some]
      rintro ⟨ssid, pw, tr⟩ read
      obtain ⟨ssid_fits, pw_fits, a_eq⟩ := parseTwoFields_eq_some_iff.mp read
      exact no_strings ssid pw tr ssid_fits pw_fits a_eq
    rw [exec_decode, alone fits, decodeCommand_no_strings fits none_read]

/-- Settles O11: both decoders are determined by the layout of the payload. -/
theorem payloadDecodersAgree : Obligations.PayloadDecodersAgree := by
  unfold Obligations.PayloadDecodersAgree
  intro p
  exact commandOf_of_payloadOf (payloadOf_decodeRpc p)

/-- Settles O13: the two premises are those under which `buildResponse` gives its bytes and gives none. -/
theorem buildRpcResponseEncodesOrRefuses : Obligations.BuildRpcResponseEncodesOrRefuses := by
  unfold Obligations.BuildRpcResponseEncodesOrRefuses
  intro tag fields ck s r
  constructor
  · rintro ⟨fields_fit, data_fits⟩
    exact exec_buildRpcResponse_some (buildResponse_eq_some fields_fit data_fits tag ck) s
  · intro too_long
    exact exec_buildRpcResponse_none ((buildResponse_eq_none_iff tag fields ck).mpr too_long) s

end

section
/-! PROOFS. What a command does to the state, said once as data that the configuration and the environment's answers
determine; the emitter's procedures, the RPC rows and the command frame. -/

namespace Sys2Proof.Machine

/-! ## The effect of a command (R168 to R176) -/

/-- What a command writes: the status registers and the credentials that it sets, whether it withholds a response, and
its outputs. What it does not name stays. -/
structure CommandEffect where
  prov : Option Byte := none
  err : Option Byte := none
  creds : Option (Bytes × Bytes) := none
  fault : Bool := false
  outs : List Output := []

/-- The state after an effect. -/
def CommandEffect.apply (e : CommandEffect) (s : State) : State :=
  { s with
    provState := e.prov.getD s.provState
    errState := e.err.getD s.errState
    credSsid := (e.creds.map Prod.fst).getD s.credSsid
    credPassword := (e.creds.map Prod.snd).getD s.credPassword
    credValid := e.creds.isSome || s.credValid
    credAvailable := e.creds.isSome || s.credAvailable
    faultEncode := s.faultEncode || e.fault
    out := s.out ++ e.outs }

@[simp] theorem apply_provState (e : CommandEffect) (s : State) :
    (e.apply s).provState = e.prov.getD s.provState := rfl
@[simp] theorem apply_errState (e : CommandEffect) (s : State) : (e.apply s).errState = e.err.getD s.errState := rfl
@[simp] theorem apply_started (e : CommandEffect) (s : State) : (e.apply s).started = s.started := rfl

/-- The effect of raising an error (R222). -/
def errorEffect (c : Config) (code : Byte) : CommandEffect where
  err := some code
  outs := errorOutputs c code

/-- The effect of a command, given the configuration and the environment's answers. -/
def commandEffect (c : Config) (env : Env) : Command → CommandEffect
  | .getCurrentState =>
    if env.netConnected then
      { prov := some 0x04#8
        fault := responseRefused [env.deviceUrl]
        outs := .tx (makeFrame 0x01#8 [0x04#8]) :: responseOutputs 0x02#8 [env.deviceUrl] }
    else { prov := some 0x02#8, outs := [.tx (makeFrame 0x01#8 [0x02#8])] }
  | .wifiSettings ssid pw =>
    if ssid = [] then errorEffect c 0x01#8
    else if env.tryConnect then
      { prov := some 0x04#8
        err := some 0x00#8
        creds := some (fitText ssid, fitText pw)
        fault := responseRefused [env.deviceUrl]
        outs := [.tx (makeFrame 0x01#8 [0x03#8]), .net (.tryConnect ssid pw), .tx (makeFrame 0x01#8 [0x04#8]),
            .sto (.save ssid pw), .tx (makeFrame 0x02#8 [0x00#8])] ++ responseOutputs 0x01#8 [env.deviceUrl] ++
          notification c.connectedObservers (.connected ssid pw) }
    else
      { prov := some 0x00#8
        err := some 0x03#8
        outs := [.tx (makeFrame 0x01#8 [0x03#8]), .net (.tryConnect ssid pw), .tx (makeFrame 0x01#8 [0x00#8])] ++
          errorOutputs c 0x03#8 }
  | .getDeviceInfo =>
    { fault := responseRefused [c.fwName, c.fwVersion, c.chipFamily, c.devName]
      outs := responseOutputs 0x03#8 [c.fwName, c.fwVersion, c.chipFamily, c.devName] }
  | .getWifiNetworks =>
    { fault := env.scan.any fun e => responseRefused (networkFields e)
      outs := (env.scan.flatMap fun e => responseOutputs 0x04#8 (networkFields e)) ++
        [.tx (makeFrame 0x04#8 [0x04#8, 0x00#8])] }
  | .unknown | .badChecksum => errorEffect c 0x02#8

/-- R168: dispatching a command is its effect. -/
theorem dispatchCommand_eq (s : State) (cmd : Command) :
    s.dispatchCommand cmd = (commandEffect s.cfg s.env cmd).apply s := by
  cases cmd with
  | getCurrentState =>
    cases connected : s.env.netConnected with
    | false =>
      rw [State.dispatchCommand, answerCurrentState_disconnected connected]
      simp [commandEffect, CommandEffect.apply, connected]
    | true =>
      rw [State.dispatchCommand, answerCurrentState_connected connected]
      simp [commandEffect, CommandEffect.apply, connected]
  | wifiSettings ssid pw =>
    by_cases empty : ssid = []
    · subst empty
      rw [State.dispatchCommand, answerWifiSettings_empty]
      simp [commandEffect, errorEffect, CommandEffect.apply]
    · cases answered : s.env.tryConnect with
      | false =>
        rw [State.dispatchCommand, answerWifiSettings_failure empty answered]
        simp [commandEffect, CommandEffect.apply, empty, answered]
      | true =>
        rw [State.dispatchCommand, answerWifiSettings_success empty answered]
        simp [commandEffect, CommandEffect.apply, notification, empty, answered]
  | getDeviceInfo =>
    rw [State.dispatchCommand, answerDeviceInfo_eq]
    simp [commandEffect, CommandEffect.apply]
  | getWifiNetworks =>
    rw [State.dispatchCommand, answerWifiNetworks_eq]
    simp [commandEffect, CommandEffect.apply]
  | unknown =>
    rw [State.dispatchCommand, answerUndecodable_eq]
    simp [commandEffect, errorEffect, CommandEffect.apply]
  | badChecksum =>
    rw [State.dispatchCommand, answerUndecodable_eq]
    simp [commandEffect, errorEffect, CommandEffect.apply]

/-- Raising an error is its effect (R222). -/
theorem raiseError_eq_effect (s : State) (code : Byte) : s.raiseError code = (errorEffect s.cfg code).apply s := by
  rw [raiseError_eq]
  simp [errorEffect, CommandEffect.apply]

/-! ## The effect of a completed frame (R118, R121) -/

/-- What a completed frame does beside the deadline and the parser: its command, where it is an `RPC_COMMAND`. -/
def frameEffect (c : Config) (env : Env) (t : Byte) (payload : Bytes) : CommandEffect :=
  if t = 0x03#8 then commandEffect c env (decodeCommand payload false) else {}

/-- The empty effect changes nothing. -/
@[simp] theorem apply_empty (s : State) : CommandEffect.apply {} s = s := by
  simp [CommandEffect.apply]

/-- R118, R121: a completed frame has its effect, refreshes the deadline and sends the parser back. -/
theorem checksumMatch_eq (s : State) (t : Byte) (p : Bytes) :
    s.checksumMatch t p = ((frameEffect s.cfg s.env t p).apply s).refreshDeadline.resetParser := by
  by_cases command : t = 0x03#8
  · subst command
    rw [checksumMatch_command, dispatchCommand_eq, frameEffect, if_pos rfl]
    rfl
  · rw [checksumMatch_other command, frameEffect, if_neg command, apply_empty]

/-- A frame's row is the completion of that frame (R118, R121; log entry 11). -/
theorem exec_frameInstr (t : Byte) (p : Bytes) (s : State) : exec (frameInstr t p) s = .next (s.checksumMatch t p) := by
  unfold frameInstr
  split_ifs with h1 h2 h3 h4
  · rw [checksumMatch_other (by simp [h1])]
    rfl
  · rw [checksumMatch_other (by simp [h2])]
    rfl
  · rw [h3, checksumMatch_command]
    rfl
  · rw [checksumMatch_other (by simp [h4])]
    rfl
  · rw [checksumMatch_other h3]
    rfl

/-! ## The RPC rows and the procedures as instructions -/

/-- `Dispatch` goes on in the state after its command (R168). -/
theorem exec_dispatch (cmd : Command) (s : State) : exec (.dispatch cmd) s = .next (s.dispatchCommand cmd) := rfl

/-- An RPC row runs the rule of the command that it stands for. -/
theorem exec_rpc {i : Instr} (h : i.format = .rpc) (s : State) :
    exec i s = .next (s.dispatchCommand (commandOf i)) := by
  cases i with
  | wifiSettings | getCurrentState | getDeviceInfo | getWifiNetworks | rpcReservedCommand | rpcMalformed => rfl
  | _ => exact absurd h (by simp [Instr.format])

/-- Every payload is an RPC row. -/
theorem format_decodeRpc (p : Bytes) : (decodeRpc p).format = .rpc := by
  have layout := payloadOf_decodeRpc p
  generalize decodeRpc p = i at layout ⊢
  cases layout <;> rfl

/-- R176: the undecodable commands raise `UnknownRpc`. -/
theorem answerUndecodable_eq_raised (s : State) :
    s.answerUndecodable = { s with errState := 0x02#8, out := s.out ++ raised s.cfg 0x02#8 } := by
  rw [answerUndecodable_eq, errorOutputs_eq_raised]

end Sys2Proof.Machine

open Sys2Proof Sys2Proof.Machine

/-- Settles O29: the payload's instruction stands for the command that `Decode` gives (`payloadDecodersAgree`), and the
command frame dispatches it after refreshing the deadline. -/
theorem commandFrameRunsItsPayload : Obligations.CommandFrameRunsItsPayload := by
  unfold Obligations.CommandFrameRunsItsPayload
  intro p s
  refine ⟨s.refreshDeadline.dispatchCommand (decodeCommand p false), ?_, rfl⟩
  rw [exec_rpc (format_decodeRpc p), payloadDecodersAgree p]
  rfl

/-- Settles O26: each RPC row is the dispatch of its command. -/
theorem dispatchRunsTheRuleOfTheCommand : Obligations.DispatchRunsTheRuleOfTheCommand := by
  unfold Obligations.DispatchRunsTheRuleOfTheCommand
  intro i s is_rpc
  exact ⟨_, exec_rpc is_rpc s, exec_dispatch (commandOf i) s⟩

/-- Settles O25: all five forms end in `answerUndecodable`. -/
theorem undecodableRaisesUnknownRpc : Obligations.UndecodableRaisesUnknownRpc := by
  unfold Obligations.UndecodableRaisesUnknownRpc
  intro c d v s t
  have undecodable : s.answerUndecodable = t := answerUndecodable_eq_raised s
  rw [← undecodable]
  refine ⟨rfl, rfl, ?_, rfl, rfl⟩
  cases v <;> rfl

/-- Settles O27: the two writes are those of the rule. -/
theorem tryConnectChangesNoRegister : Obligations.TryConnectChangesNoRegister := by
  unfold Obligations.TryConnectChangesNoRegister
  intro ssid pw s
  rfl

/-- Settles O18: `raiseError_eq`, with the frame as R152 prints it. -/
theorem setErrorWritesEmitsAndMayNotify : Obligations.SetErrorWritesEmitsAndMayNotify := by
  unfold Obligations.SetErrorWritesEmitsAndMayNotify
  intro e s
  have exec_eq : exec (.setError e) s = .next (s.raiseError e) := rfl
  rw [exec_eq, raiseError_eq, errorOutputs_eq_raised]
  rfl

/-- Settles O14: the length of the payload chooses between the frame and the refusal. -/
theorem makeFrameBuildsTheFrame : Obligations.MakeFrameBuildsTheFrame := by
  unfold Obligations.MakeFrameBuildsTheFrame
  intro t p s h
  have exec_eq : exec (.makeFrame t p) s = execMakeFrame t p s := rfl
  rw [exec_eq, execMakeFrame]
  constructor
  · intro fits
    rw [if_pos fits]
    rfl
  · intro too_long
    rw [if_neg (Nat.not_le.mpr too_long)]
    rfl

/-- Settles O15: the frames as R151 and R152 print them. -/
theorem emittersAppendOneWholeFrame : Obligations.EmittersAppendOneWholeFrame := by
  unfold Obligations.EmittersAppendOneWholeFrame
  intro v f s
  rw [← makeFrame_state, ← makeFrame_error]
  exact ⟨rfl, rfl, rfl⟩

end

section
/-! PROOFS. What a step can do, with every next state written out: the cases that the invariants and the whole-machine
rules are proved by. -/

namespace Sys2Proof.Machine

/-- A tick: the policy and then the edge detection, on one sample of the network and the time (R191, R203). -/
def State.ticked (s : State) : State := (s.tickPolicy s.env.netConnected s.env.now).tickEdge s.env.netConnected

/-- A tick goes on in `ticked`. -/
theorem exec_tick (s : State) : exec .tick s = .next s.ticked := rfl

/-- R117: the mismatch path is the effect of `InvalidRpc`, and then position 0. -/
theorem checksumMismatch_eq_effect (s : State) :
    s.checksumMismatch = ((errorEffect s.cfg 0x01#8).apply s).resetParser := by
  rw [State.checksumMismatch, raiseError_eq_effect]

/-- The next states of `s`: what was pending, what selected the case, and the state itself. -/
inductive Stepped (s : State) : State → Prop
  | idle (pending : s.input = []) : Stepped s s
  | configured {c : Config} {rest : List Input} (pending : s.input = .configure c :: rest)
      (not_started : s.started = false) :
      Stepped s { s with input := rest, cfg := c, credAvailable := c.credAvailAtReset }
  | reset {env : Env} {rest : List Input} (pending : s.input = .event .reset env :: rest) :
      Stepped s (s.take env rest).resetAll
  | ticked {env : Env} {rest : List Input} (pending : s.input = .event .tick env :: rest) :
      Stepped s (s.take env rest).ticked
  | rejected {b : Byte} {env : Env} {rest : List Input} (pending : s.input = .event (.rxByte b) env :: rest)
      (wrong : framingError s b) : Stepped s (s.take env rest).resetParser
  | accepted {b : Byte} {env : Env} {rest : List Input} (pending : s.input = .event (.rxByte b) env :: rest)
      (right : acceptsByte s b) : Stepped s (stored (s.take env rest) b)
  | mismatched {b : Byte} {env : Env} {rest : List Input} (pending : s.input = .event (.rxByte b) env :: rest)
      (at_end : 9 + s.frameLength ≤ s.pos.toNat) (wrong : b ≠ s.csum) :
      Stepped s ((errorEffect s.cfg 0x01#8).apply (s.take env rest)).resetParser
  | completed {b : Byte} {env : Env} {rest : List Input} (pending : s.input = .event (.rxByte b) env :: rest)
      (at_end : 9 + s.frameLength ≤ s.pos.toNat) (right : b = s.csum) :
      Stepped s ((frameEffect s.cfg env (s.buf.read 7) (s.buf.readList 9 s.frameLength)).apply
        (s.take env rest)).refreshDeadline.resetParser

/-- A step that goes on is one of these. -/
theorem stepped_of_step {s s' : State} (h : step s = .next s') : Stepped s s' := by
  obtain ⟨pending, next⟩ | ⟨c, rest, pending, next⟩ | ⟨b, env, rest, pending, next⟩ | ⟨env, rest, pending, next⟩ |
    ⟨env, rest, pending, next⟩ := step_cases s <;> rw [next] at h
  case inl =>
    cases h
    exact .idle pending
  case inr.inl =>
    obtain ⟨not_started, rfl⟩ := configure_next h
    exact .configured pending not_started
  case inr.inr.inl =>
    obtain ⟨wrong, outcome⟩ | ⟨right, outcome⟩ | ⟨at_end, wrong, outcome⟩ | ⟨at_end, right, outcome⟩ :=
      execRxByte_cases (s.take env rest) b <;> rw [outcome, Host.Outcome.next.injEq] at h <;> subst h
    · exact .rejected pending wrong
    · exact .accepted pending right
    · rw [checksumMismatch_eq_effect]
      exact .mismatched pending at_end wrong
    · rw [checksumMatch_eq]
      exact .completed pending at_end right
  case inr.inr.inr.inl =>
    cases h
    exact .ticked pending
  case inr.inr.inr.inr =>
    cases h
    exact .reset pending

end Sys2Proof.Machine

end

section
/-! PROOFS. The Connection Manager: the start of a cycle, the whole tick, what a tick leaves alone, the manager's
invariant, and retry exhaustion along a run of ticks. -/

namespace Sys2Proof.Machine

/-! ## Outputs of the manager (R44) -/

/-- A notification and its deliveries hold no frame. -/
@[simp] theorem frames_notification (hs : List Handle) (e : ObsEvent) :
    (notification hs e).filterMap Output.frame? = [] := by
  simp [notification, Output.frame?]

/-- A notification stands in `OBS` once; its deliveries do not. -/
@[simp] theorem obs_notification (hs : List Handle) (e : ObsEvent) :
    (notification hs e).filterMap Output.obs? = [e] := by
  simp [notification, Output.obs?]

/-! ## The start of a cycle (R193) -/

/-- R193: IDLE, not connected, the gate open and not `failed`, the tick starts a cycle. -/
theorem exec_cmCycleStart {s : State} (idle : s.cmPhase = .idle) (not_connected : s.env.netConnected = false)
    (gate : s.credAvailable = true) (not_failed : s.failed = false) : exec .cmCycleStart s = .next s.startCycle :=
  if_pos ⟨idle, not_connected, gate, not_failed⟩

/-! ## What a tick leaves alone (R203, R156) -/

/-- `t` is `s` but for the Connection Manager's registers, the credentials and outputs that are no frames. -/
structure State.ManagerOnly (s t : State) : Prop where
  others : { s with
    retriesDone := t.retriesDone, lastConnected := t.lastConnected, failed := t.failed, cmPhase := t.cmPhase,
    attemptDeadline := t.attemptDeadline, credValid := t.credValid, credSsid := t.credSsid,
    credPassword := t.credPassword, credAvailable := t.credAvailable, out := t.out } = t
  grows : ∃ outs, t.out = s.out ++ outs ∧ outs.filterMap Output.frame? = []

namespace State.ManagerOnly

variable {s t u : State}

theorem refl (s : State) : s.ManagerOnly s := ⟨rfl, [], by simp⟩

theorem trans (h : s.ManagerOnly t) (h' : t.ManagerOnly u) : s.ManagerOnly u := by
  refine ⟨?_, ?_⟩
  · rw [← h'.others, ← h.others]
  · obtain ⟨o, out_t, no_frame⟩ := h.grows
    obtain ⟨o', out_u, no_frame'⟩ := h'.grows
    exact ⟨o ++ o', by rw [out_u, out_t, List.append_assoc], by simp [no_frame, no_frame']⟩

theorem pos (h : s.ManagerOnly t) : t.pos = s.pos := (congrArg State.pos h.others).symm
theorem buf (h : s.ManagerOnly t) : t.buf = s.buf := (congrArg State.buf h.others).symm
theorem csum (h : s.ManagerOnly t) : t.csum = s.csum := (congrArg State.csum h.others).symm
theorem provState (h : s.ManagerOnly t) : t.provState = s.provState := (congrArg State.provState h.others).symm
theorem errState (h : s.ManagerOnly t) : t.errState = s.errState := (congrArg State.errState h.others).symm
theorem inactDeadline (h : s.ManagerOnly t) : t.inactDeadline = s.inactDeadline :=
  (congrArg State.inactDeadline h.others).symm
theorem inactValid (h : s.ManagerOnly t) : t.inactValid = s.inactValid := (congrArg State.inactValid h.others).symm
theorem faultEncode (h : s.ManagerOnly t) : t.faultEncode = s.faultEncode :=
  (congrArg State.faultEncode h.others).symm
theorem cfg (h : s.ManagerOnly t) : t.cfg = s.cfg := (congrArg State.cfg h.others).symm
theorem input (h : s.ManagerOnly t) : t.input = s.input := (congrArg State.input h.others).symm
theorem env (h : s.ManagerOnly t) : t.env = s.env := (congrArg State.env h.others).symm

/-- No frame leaves. -/
theorem tx (h : s.ManagerOnly t) : t.tx = s.tx := by
  obtain ⟨outs, out_eq, no_frame⟩ := h.grows
  simp [State.tx, out_eq, no_frame]

/-- What was put out before stays. -/
theorem out (h : s.ManagerOnly t) : s.out <+: t.out := by
  obtain ⟨outs, out_eq, -⟩ := h.grows
  exact ⟨outs, out_eq.symm⟩

end State.ManagerOnly

/-- The start of a cycle (R193). -/
theorem managerOnly_startCycle (s : State) : s.ManagerOnly s.startCycle := by
  obtain ⟨-, h⟩ | ⟨-, -, h⟩ | ⟨ssid, pw, -, -, h⟩ := startCycle_cases s <;> rw [h] <;> exact ⟨rfl, _, rfl, rfl⟩

/-- The timeout of an attempt (R196, R197). -/
theorem managerOnly_cycleTimeout (s : State) : s.ManagerOnly s.cycleTimeout := by
  by_cases last : s.countedRetry = s.cfg.maxRetries
  · rw [cycleTimeout_of_eq last]
    exact ⟨rfl, _, rfl, frames_notification _ _⟩
  · rw [cycleTimeout_of_ne last]
    exact ⟨rfl, [], by simp⟩

/-- The attempt policy (R192). -/
theorem managerOnly_tickPolicy (s : State) (c : Bool) (now : Time) : s.ManagerOnly (s.tickPolicy c now) := by
  obtain ⟨-, -, h⟩ | ⟨-, -, -, h⟩ | ⟨-, -, -, h⟩ | ⟨-, -, -, -, h⟩ | ⟨-, -, h⟩ | ⟨-, -, -, h⟩ :=
    tickPolicy_cases s c now <;> rw [h]
  case inl => exact ⟨rfl, _, rfl, frames_notification s.cfg.connectedObservers _⟩
  case inr.inl => exact managerOnly_cycleTimeout s
  case inr.inr.inr.inl => exact managerOnly_startCycle s
  case inr.inr.inr.inr.inl => exact ⟨rfl, _, rfl, frames_notification s.cfg.errorObservers _⟩
  all_goals exact .refl s

/-- The edge detection (R199). -/
theorem managerOnly_tickEdge (s : State) (c : Bool) : s.ManagerOnly (s.tickEdge c) := by
  obtain ⟨-, h⟩ | ⟨-, -, h⟩ | ⟨-, -, h⟩ := tickEdge_cases s c <;> rw [h]
  · exact .refl s
  · exact ⟨rfl, _, rfl, frames_notification s.cfg.connectedObservers _⟩
  · exact ⟨rfl, _, rfl, frames_notification s.cfg.disconnectedObservers _⟩

/-- R203: a tick is the manager's alone. -/
theorem managerOnly_ticked (s : State) : s.ManagerOnly s.ticked :=
  (managerOnly_tickPolicy s _ _).trans (managerOnly_tickEdge _ _)

/-! ## The premise of U25 -/

/-- R37: `MAX_RETRIES` is at least 1. -/
theorem maxRetries_pos {c : Config} (h : c.inRange = true) : 0 < c.maxRetries.toNat := by
  simp only [Config.inRange, Bool.and_eq_true, decide_eq_true_eq] at h
  omega

/-- R244: the give-up code is none of the wire's error codes. -/
theorem errConnectGiveup_ne {c : Config} (h : c.inRange = true) : c.errConnectGiveup ≠ 3 := by
  simp only [Config.inRange, Bool.and_eq_true, decide_eq_true_eq] at h
  omega

/-! ## The manager's invariant -/

/-- The invariant speaks of the manager's registers, the credentials, the configuration and the pending inputs alone. -/
theorem managerInv_congr {s t : State} (h : s.ManagerInv)
    (same : { t with
      pos := s.pos, buf := s.buf, csum := s.csum, inactDeadline := s.inactDeadline, inactValid := s.inactValid,
      provState := s.provState, errState := s.errState, lastConnected := s.lastConnected,
      attemptDeadline := s.attemptDeadline, faultEncode := s.faultEncode, out := s.out, env := s.env,
      answer := s.answer } = s) : t.ManagerInv := by
  rw [← same] at h
  exact ⟨h.retriesBound, h.retriesBelow, h.joining, h.gate, h.ssidFits, h.passwordFits, h.config, h.fresh, h.pending⟩

/-- Taking an event shortens the pending inputs and ends the time before the first event. -/
theorem managerInv_take {s : State} {x : Input} {rest : List Input} (h : s.ManagerInv) (hi : s.input = x :: rest)
    (env : Env) : (s.take env rest).ManagerInv where
  retriesBound := h.retriesBound
  retriesBelow := h.retriesBelow
  joining := h.joining
  gate := h.gate
  ssidFits := h.ssidFits
  passwordFits := h.passwordFits
  config := h.config
  fresh := fun not_started => absurd not_started (by simp)
  pending := fun c hc => h.pending c (hi ▸ List.mem_cons_of_mem x hc)

/-- R253: before the first event nothing has moved, so every configuration in range meets the invariant. -/
theorem managerInv_configure {s : State} {c : Config} {rest : List Input} (h : s.ManagerInv)
    (hi : s.input = .configure c :: rest) (not_started : s.started = false) :
    { s with input := rest, cfg := c, credAvailable := c.credAvailAtReset }.ManagerInv := by
  obtain ⟨no_retry, not_failed, idle, no_credentials⟩ := h.fresh not_started
  have in_range : c.inRange = true := h.pending c (hi ▸ List.mem_cons_self)
  have some_retry := maxRetries_pos in_range
  refine ⟨?_, fun _ => ?_, fun joining => ?_, fun valid => ?_, h.ssidFits, h.passwordFits, in_range, h.fresh,
    fun c' hc => h.pending c' (hi ▸ List.mem_cons_of_mem _ hc)⟩
  · simp [no_retry]
  · simpa [no_retry] using some_retry
  · simp [idle] at joining
  · simp [no_credentials] at valid

/-- The credentials that a command sets fit their registers (R26). -/
theorem creds_fit {c : Config} {env : Env} {cmd : Command} {a b : Bytes}
    (h : (commandEffect c env cmd).creds = some (a, b)) : a.length ≤ 255 ∧ b.length ≤ 255 := by
  cases cmd with
  | getCurrentState =>
    simp only [commandEffect] at h
    split_ifs at h
  | wifiSettings ssid pw =>
    simp only [commandEffect] at h
    split_ifs at h
    · simp [errorEffect] at h
    · simp only [Option.some.injEq, Prod.mk.injEq] at h
      obtain ⟨rfl, rfl⟩ := h
      exact ⟨(fitText_spec ssid).1, (fitText_spec pw).1⟩
  | getDeviceInfo => simp [commandEffect] at h
  | getWifiNetworks => simp [commandEffect] at h
  | unknown => simp [commandEffect, errorEffect] at h
  | badChecksum => simp [commandEffect, errorEffect] at h

/-- The credentials that a completed frame sets fit their registers (R26). -/
theorem frame_creds_fit {c : Config} {env : Env} {t : Byte} {p a b : Bytes}
    (h : (frameEffect c env t p).creds = some (a, b)) : a.length ≤ 255 ∧ b.length ≤ 255 := by
  unfold frameEffect at h
  split_ifs at h
  exact creds_fit h

/-- An effect whose credentials fit keeps the invariant. -/
theorem managerInv_apply {s : State} {e : CommandEffect} (h : s.ManagerInv) (started : s.started = true)
    (fits : ∀ a b, e.creds = some (a, b) → a.length ≤ 255 ∧ b.length ≤ 255) : (e.apply s).ManagerInv := by
  cases creds : e.creds with
  | none =>
    refine managerInv_congr (s := s) h ?_
    simp [CommandEffect.apply, creds]
  | some x =>
    obtain ⟨a, b⟩ := x
    obtain ⟨ssid_fits, pw_fits⟩ := fits a b creds
    refine ⟨h.retriesBound, h.retriesBelow, fun joining => ⟨(h.joining joining).1, ?_⟩, fun _ => ?_, ?_, ?_, h.config,
      fun not_started => ?_, h.pending⟩
    · simp [CommandEffect.apply, creds]
    · simp [CommandEffect.apply, creds]
    · simpa [CommandEffect.apply, creds] using ssid_fits
    · simpa [CommandEffect.apply, creds] using pw_fits
    · exact absurd started (by simpa using not_started)

section Tick

variable {s : State} (h : s.ManagerInv) (started : s.started = true)
include h started

/-- The start of a cycle keeps the invariant: the cycle has credentials. -/
theorem managerInv_startCycle (not_failed : s.failed = false) : s.startCycle.ManagerInv := by
  obtain ⟨valid, next⟩ | ⟨-, -, next⟩ | ⟨ssid, pw, -, -, next⟩ := startCycle_cases s <;> rw [next]
  · exact ⟨h.retriesBound, h.retriesBelow, fun _ => ⟨not_failed, valid⟩, h.gate, h.ssidFits, h.passwordFits, h.config,
      fun not_started => absurd started (by simpa using not_started), h.pending⟩
  · exact managerInv_congr h rfl
  · exact ⟨h.retriesBound, h.retriesBelow, fun _ => ⟨not_failed, rfl⟩, fun _ => rfl, (fitText_spec ssid).1,
      (fitText_spec pw).1, h.config, fun not_started => absurd started (by simpa using not_started), h.pending⟩

/-- Clearing the counter and `failed` keeps the invariant, whatever the phase may become. -/
theorem managerInv_cleared {t : State} (phase : t.cmPhase = .joining → s.cmPhase = .joining)
    (cleared : t.retriesDone = 0#8) (failed : t.failed = false)
    (same : { s with
      retriesDone := t.retriesDone, failed := t.failed, cmPhase := t.cmPhase, lastConnected := t.lastConnected,
      out := t.out } = t) : t.ManagerInv := by
  have some_retry := maxRetries_pos h.config
  rw [← same]
  refine ⟨?_, fun _ => ?_, fun joining => ⟨failed, (h.joining (phase joining)).2⟩, h.gate, h.ssidFits,
    h.passwordFits, h.config, fun not_started => absurd started (by simpa using not_started), h.pending⟩
  · simp [cleared]
  · simpa [cleared] using some_retry

/-- A timeout keeps the invariant: the counter was below `MAX_RETRIES`, and `failed` is set where it arrives there. -/
theorem managerInv_cycleTimeout (joining : s.cmPhase = .joining) : s.cycleTimeout.ManagerInv := by
  have below := h.retriesBelow (h.joining joining).1
  have max_lt := s.cfg.maxRetries.isLt
  have counted := toNat_countedRetry (s := s) (by omega)
  by_cases last : s.countedRetry = s.cfg.maxRetries
  · rw [cycleTimeout_of_eq last]
    exact ⟨by simp [last], nofun, nofun, h.gate, h.ssidFits, h.passwordFits, h.config,
      fun not_started => absurd started (by simpa using not_started), h.pending⟩
  · have not_last : s.countedRetry.toNat ≠ s.cfg.maxRetries.toNat := fun same => last (BitVec.eq_of_toNat_eq same)
    rw [cycleTimeout_of_ne last]
    exact ⟨by simp only; omega, fun _ => by simp only; omega, nofun, h.gate, h.ssidFits, h.passwordFits, h.config,
      fun not_started => absurd started (by simpa using not_started), h.pending⟩

/-- The attempt policy keeps the invariant. -/
theorem managerInv_tickPolicy (c : Bool) (now : Time) : (s.tickPolicy c now).ManagerInv := by
  obtain ⟨joining, -, next⟩ | ⟨joining, -, -, next⟩ | ⟨-, -, -, next⟩ | ⟨-, -, -, not_failed, next⟩ | ⟨-, -, next⟩ |
    ⟨-, -, -, next⟩ := tickPolicy_cases s c now <;> rw [next]
  case inl =>
    rw [cycleSuccess_eq]
    exact managerInv_cleared h started nofun rfl (h.joining joining).1 rfl
  case inr.inl => exact managerInv_cycleTimeout h started joining
  case inr.inr.inr.inl => exact managerInv_startCycle h started not_failed
  case inr.inr.inr.inr.inl =>
    rw [giveUp_eq]
    exact managerInv_congr h rfl
  all_goals exact h

/-- The edge detection keeps the invariant. -/
theorem managerInv_tickEdge (c : Bool) : (s.tickEdge c).ManagerInv := by
  obtain ⟨-, next⟩ | ⟨-, -, next⟩ | ⟨-, -, next⟩ := tickEdge_cases s c <;> rw [next]
  · exact h
  · exact managerInv_cleared h started id rfl rfl rfl
  · exact managerInv_congr h rfl

end Tick

/-- A tick keeps the invariant. -/
theorem managerInv_ticked {s : State} (h : s.ManagerInv) (started : s.started = true) : s.ticked.ManagerInv := by
  have started' : (s.tickPolicy s.env.netConnected s.env.now).started = true := by
    rw [← (managerOnly_tickPolicy s _ _).others]
    exact started
  exact managerInv_tickEdge (managerInv_tickPolicy h started _ _) started' _

/-- The event `Reset` meets the invariant: the configuration keeps its ranges, the content left behind fits. -/
theorem managerInv_resetAll {s : State} (h : s.ManagerInv) : s.resetAll.ManagerInv where
  retriesBound := Nat.zero_le _
  retriesBelow := fun _ => maxRetries_pos h.config
  joining := nofun
  gate := nofun
  ssidFits := (fitText_spec _).1
  passwordFits := (fitText_spec _).1
  config := h.config
  fresh := fun _ => ⟨rfl, rfl, rfl, rfl⟩
  pending := h.pending

/-! ## Retry exhaustion (R197, R204) -/

/-- How far from `s` to `t` the attempts got: `Error(3)` was notified where `failed` became set and not otherwise, the
counter did not go back, and `failed` still tells whether the counter is at `MAX_RETRIES`. -/
structure RetryProgress (s t : State) : Prop where
  cfg : t.cfg = s.cfg
  notified : t.countObs (.error 3) + s.failed.toNat = s.countObs (.error 3) + t.failed.toNat
  counter : s.retriesDone.toNat ≤ t.retriesDone.toNat
  exhausted : (s.failed = true ↔ s.retriesDone = s.cfg.maxRetries) →
    (t.failed = true ↔ t.retriesDone = t.cfg.maxRetries)

namespace RetryProgress

theorem refl (s : State) : RetryProgress s s := ⟨rfl, rfl, le_rfl, id⟩

theorem trans {s t u : State} (h : RetryProgress s t) (h' : RetryProgress t u) : RetryProgress s u := by
  refine ⟨h'.cfg.trans h.cfg, ?_, h.counter.trans h'.counter, h'.exhausted ∘ h.exhausted⟩
  have first := h.notified
  have second := h'.notified
  omega

/-- Outputs without `Error(3)`, the counter and `failed` unchanged. -/
theorem of_outputs {s t : State} {outs : List Output} (out_eq : t.out = s.out ++ outs)
    (quiet : (outs.filterMap Output.obs?).count (.error 3) = 0) (cfg : t.cfg = s.cfg)
    (retries : t.retriesDone = s.retriesDone) (failed : t.failed = s.failed) : RetryProgress s t := by
  refine ⟨cfg, ?_, by rw [retries], by rw [cfg, retries, failed]; exact id⟩
  simp [State.countObs, State.obs, out_eq, quiet, failed]

end RetryProgress

/-- The start of a cycle notifies nothing (R193). -/
theorem retryProgress_startCycle (s : State) : RetryProgress s s.startCycle := by
  obtain ⟨-, next⟩ | ⟨-, -, next⟩ | ⟨ssid, pw, -, -, next⟩ := startCycle_cases s <;> rw [next]
  all_goals exact .of_outputs rfl rfl rfl rfl rfl

/-- A timeout notifies `Error(3)` where it is the last one (R196, R197). -/
theorem retryProgress_cycleTimeout {s : State} (h : s.ManagerInv) (joining : s.cmPhase = .joining) :
    RetryProgress s s.cycleTimeout := by
  have not_failed := (h.joining joining).1
  have below := h.retriesBelow not_failed
  have max_lt := s.cfg.maxRetries.isLt
  have counted := toNat_countedRetry (s := s) (by omega)
  by_cases last : s.countedRetry = s.cfg.maxRetries
  · rw [cycleTimeout_of_eq last]
    refine ⟨rfl, ?_, by simp only; omega, fun _ => ?_⟩
    · simp [State.countObs, State.obs, not_failed]
    · simp [last]
  · rw [cycleTimeout_of_ne last]
    refine ⟨rfl, rfl, by simp only; omega, fun _ => ?_⟩
    simp [last, not_failed]

/-- R198, R244: the give-up report is another code. -/
theorem retryProgress_giveUp {s : State} (h : s.ManagerInv) : RetryProgress s s.giveUp := by
  have other_code := errConnectGiveup_ne h.config
  refine .of_outputs (outs := notification s.cfg.errorObservers (.error s.cfg.errConnectGiveup)) rfl ?_ rfl rfl rfl
  simp [other_code]

/-- One tick without the network (R192, R199). -/
theorem retryProgress_ticked {s : State} (h : s.ManagerInv) (not_connected : s.env.netConnected = false) :
    RetryProgress s s.ticked := by
  have policy : RetryProgress s (s.tickPolicy false s.env.now) := by
    obtain ⟨-, connected, -⟩ | ⟨joining, -, -, next⟩ | ⟨-, -, -, next⟩ | ⟨-, -, -, -, next⟩ | ⟨-, -, next⟩ |
      ⟨-, -, -, next⟩ := tickPolicy_cases s false s.env.now
    case inl => contradiction
    all_goals rw [next]
    case inr.inl => exact retryProgress_cycleTimeout h joining
    case inr.inr.inr.inl => exact retryProgress_startCycle s
    case inr.inr.inr.inr.inl => exact retryProgress_giveUp h
    all_goals exact .refl s
  have edge (u : State) : RetryProgress u (u.tickEdge false) := by
    obtain ⟨-, next⟩ | ⟨connected, -⟩ | ⟨-, -, next⟩ := tickEdge_cases u false
    · rw [next]
      exact .refl u
    · contradiction
    · rw [next]
      exact .of_outputs (outs := notification u.cfg.disconnectedObservers .disconnected) rfl (by simp) rfl rfl rfl
  rw [State.ticked, not_connected]
  exact policy.trans (edge _)

/-- R204: a run of ticks that never find the network connected, by induction on the ticks. -/
theorem retryProgress_runSteps : ∀ (envs : List Env) (s : State), s.ManagerInv →
    (∀ e ∈ envs, e.netConnected = false) → s.input = envs.map (fun e => .event .tick e) →
    ∃ t, runSteps envs.length s = .next t ∧ RetryProgress s t
  | [], s, _, _, _ => ⟨s, rfl, .refl s⟩
  | env :: envs, s, h, not_connected, pending => by
    have step_eq : step s = .next (s.take env (envs.map fun e => .event .tick e)).ticked := by
      rw [step, pending]
      rfl
    have taken := managerInv_take h pending env
    obtain ⟨t, run, progress⟩ := retryProgress_runSteps envs _ (managerInv_ticked taken rfl)
      (fun e he => not_connected e (List.mem_cons_of_mem env he)) (managerOnly_ticked _).input
    refine ⟨t, by simp only [List.length_cons, runSteps, step_eq, run], ?_⟩
    have started : RetryProgress s (s.take env (envs.map fun e => .event .tick e)) := ⟨rfl, rfl, le_rfl, id⟩
    exact (started.trans (retryProgress_ticked taken (not_connected env List.mem_cons_self))).trans progress

end Sys2Proof.Machine

open Sys2Proof Sys2Proof.Machine

/-- Settles O47: the progress of the whole run, read off for a start that is not `failed`. -/
theorem exhaustionNotifiesOnce : Obligations.ExhaustionNotifiesOnce := by
  unfold Obligations.ExhaustionNotifiesOnce
  intro envs s inv not_failed not_connected pending
  obtain ⟨t, run, progress⟩ := retryProgress_runSteps envs s inv not_connected pending
  refine ⟨t, run, ?_, ?_, progress.counter⟩
  · have notified := progress.notified
    cases failed : t.failed <;> simpa [not_failed, failed] using notified
  · have below := inv.retriesBelow not_failed
    rw [← progress.cfg]
    refine progress.exhausted ⟨fun failed => ?_, fun at_max => ?_⟩
    · rw [not_failed] at failed
      contradiction
    · rw [at_max] at below
      exact absurd below (Nat.lt_irrefl _)

/-- Settles O52: each case of `Stepped` keeps the invariant. -/
theorem stepKeepsManagerInvariant : Obligations.StepKeepsManagerInvariant := by
  unfold Obligations.StepKeepsManagerInvariant
  intro s s' inv stepped
  cases stepped_of_step stepped with
  | idle => exact inv
  | configured pending not_started => exact managerInv_configure inv pending not_started
  | reset pending => exact managerInv_resetAll (managerInv_take inv pending _)
  | ticked pending => exact managerInv_ticked (managerInv_take inv pending _) rfl
  | @rejected _ env _ pending => exact managerInv_congr (managerInv_take inv pending env) rfl
  | @accepted _ env _ pending => exact managerInv_congr (managerInv_take inv pending env) rfl
  | @mismatched _ env _ pending => exact managerInv_congr (managerInv_take inv pending env) rfl
  | @completed _ env _ pending =>
    exact managerInv_congr (managerInv_apply (managerInv_take inv pending env) rfl fun _ _ => frame_creds_fit) rfl

/-- Settles O41: `startCycle_cases` lists the three starts; `credValid` and the storage's answer say which one it is. -/
theorem cycleStarts : Obligations.CycleStarts := by
  unfold Obligations.CycleStarts
  intro s idle not_connected gate not_failed
  rw [exec_cmCycleStart idle not_connected gate not_failed]
  obtain ⟨valid, next⟩ | ⟨invalid, none_stored, next⟩ | ⟨ssid, pw, invalid, stored_creds, next⟩ :=
    startCycle_cases s <;> rw [next]
  · exact ⟨fun _ => rfl, fun _ _ invalid => by simp [valid] at invalid, fun invalid => by simp [valid] at invalid⟩
  · refine ⟨fun valid => by simp [invalid] at valid, fun _ _ _ stored_creds => ?_, fun _ _ => rfl⟩
    simp [none_stored] at stored_creds
  · refine ⟨fun valid => by simp [invalid] at valid, fun ssid' pw' _ stored_creds' => ?_, fun _ none_stored => ?_⟩
    · simp only [stored_creds, Option.some.injEq, Prod.mk.injEq] at stored_creds'
      obtain ⟨rfl, rfl⟩ := stored_creds'
      exact ⟨fitText ssid, fitText pw, (fitText_spec ssid).1, (fitText_spec pw).1, (fitText_spec ssid).2,
        (fitText_spec pw).2, rfl⟩
    · simp [stored_creds] at none_stored

/-- Settles O45: `u` is the state after the policy and `t` the one after the edge detection; the policy's branches are
the rows, and the edge detection compares with the sample that the policy left alone. -/
theorem tickRunsThePolicyThenTheEdge : Obligations.TickRunsThePolicyThenTheEdge := by
  unfold Obligations.TickRunsThePolicyThenTheEdge
  intro s
  have sample : (s.tickPolicy s.env.netConnected s.env.now).env = s.env := (managerOnly_tickPolicy s _ _).env
  refine ⟨s.tickPolicy s.env.netConnected s.env.now, s.ticked, ?success, ?timeout, ?waiting, ?start, ?giveUp, ?nothing,
    ?edge, ?noEdge, exec_tick s⟩
  case success =>
    intro joining connected
    rw [exec_cmSuccess joining connected]
    simp [State.tickPolicy, joining, connected]
  case timeout =>
    intro joining not_connected late
    rw [exec_cmTimeout joining not_connected late]
    simp [State.tickPolicy, joining, not_connected, (reached_iff _ _).mpr late]
  case waiting =>
    intro joining not_connected early
    have not_reached : ¬ reached s.env.now s.attemptDeadline = true := mt (reached_iff _ _).mp (Nat.not_lt.mpr early)
    simp [State.tickPolicy, joining, not_connected, not_reached]
  case start =>
    intro idle not_connected gate not_failed
    rw [exec_cmCycleStart idle not_connected gate not_failed]
    simp [State.tickPolicy, idle, not_connected, gate, not_failed]
  case giveUp =>
    intro idle failed
    rw [exec_cmGiveUp idle failed]
    simp [State.tickPolicy, idle, failed]
  case nothing =>
    intro idle not_failed closed
    have no_start : ¬ (s.env.netConnected = false ∧ s.credAvailable = true) := by
      rintro ⟨not_connected, gate⟩
      simp [not_connected, gate] at closed
    simp [State.tickPolicy, idle, not_failed, no_start]
  case edge =>
    intro changed
    rw [exec_cmEdge (by rwa [sample]), sample, State.ticked, State.tickEdge, if_pos changed]
  case noEdge =>
    intro unchanged
    rw [State.ticked, State.tickEdge, if_neg (not_not.mpr unchanged)]

/-- Settles O46: what `managerOnly_ticked` leaves alone. -/
theorem tickTouchesOnlyTheConnectionManager : Obligations.TickTouchesOnlyTheConnectionManager := by
  unfold Obligations.TickTouchesOnlyTheConnectionManager
  intro s
  have only := managerOnly_ticked s
  exact ⟨s.ticked, exec_tick s, only.tx, only.pos, only.buf, only.csum, only.provState, only.errState,
    only.inactDeadline, only.inactValid, only.faultEncode, only.cfg, only.input, only.out⟩

/-- Settles O44: each premise denies a part of the condition under which the row goes on. -/
theorem tickPartsStopWhereNotSelected : Obligations.TickPartsStopWhereNotSelected := by
  unfold Obligations.TickPartsStopWhereNotSelected
  intro s
  refine ⟨?cycleStart, ?success, ?timeout, ?exhaustion, ?giveUp, ?edge⟩
  case cycleStart =>
    intro denied
    refine if_neg ?_
    rintro ⟨idle, not_connected, gate, not_failed⟩
    simp [idle, not_connected, gate, not_failed] at denied
  case success =>
    intro denied
    refine if_neg ?_
    rintro ⟨joining, connected⟩
    simp [joining, connected] at denied
  case timeout =>
    intro denied
    refine if_neg ?_
    rintro ⟨joining, not_connected, late⟩
    have late' := (reached_iff _ _).mp late
    simp only [joining, not_connected, reduceCtorEq, Bool.false_eq_true, false_or] at denied
    exact absurd late' (Nat.not_lt.mpr denied)
  case exhaustion => exact fun below => if_neg below
  case giveUp =>
    intro denied
    refine if_neg ?_
    rintro ⟨idle, failed⟩
    simp [idle, failed] at denied
  case edge => exact fun unchanged => if_neg (not_not.mpr unchanged)

end

section
/-! PROOFS. The Frame Parser: the whole step, receiving a frame byte by byte, the parser's invariant, and the frame that
the buffer and the received byte decode to. -/

namespace Sys2Proof.Machine

/-! ## The outcome of `RxByte`, one lemma for each (R126) -/

/-- The event `RxByte` is its meaning. -/
theorem exec_rxByte (b : Byte) (s : State) : exec (.rxByte b) s = execRxByte b s := rfl

/-- A byte is not both accepted and a framing error. -/
theorem not_framingError_of_acceptsByte {s : State} {b : Byte} (h : acceptsByte s b) : ¬ framingError s b := by
  rintro (⟨early, wrong⟩ | ⟨at_six, wrong⟩)
  · obtain ⟨-, right⟩ | ⟨_, -⟩ | _ | _ | ⟨_, -⟩ := h
    · exact wrong right
    all_goals omega
  · obtain ⟨_, -⟩ | ⟨-, right⟩ | _ | _ | ⟨_, -⟩ := h
    case inr.inr.inl => exact wrong right
    all_goals omega

/-- Accepted bytes stand before the checksum. -/
theorem pos_lt_of_acceptsByte {s : State} {b : Byte} (h : acceptsByte s b) : s.pos.toNat < 9 + s.frameLength := by
  unfold acceptsByte at h
  omega

/-- Framing errors stand in the preamble and the version. -/
theorem pos_le_of_framingError {s : State} {b : Byte} (h : framingError s b) : s.pos.toNat ≤ 6 := by
  unfold framingError at h
  omega

/-- R110: an accepted byte is stored. -/
theorem execRxByte_accepted {s : State} {b : Byte} (h : acceptsByte s b) : execRxByte b s = .next (stored s b) := by
  have before_end := pos_lt_of_acceptsByte h
  obtain ⟨wrong, -⟩ | ⟨-, next⟩ | ⟨at_end, -⟩ | ⟨at_end, -⟩ := execRxByte_cases s b
  · exact absurd wrong (not_framingError_of_acceptsByte h)
  · exact next
  all_goals omega

/-- R224: a framing error sends the parser back. -/
theorem execRxByte_rejected {s : State} {b : Byte} (h : framingError s b) : execRxByte b s = .next s.resetParser := by
  have early := pos_le_of_framingError h
  obtain ⟨-, next⟩ | ⟨right, -⟩ | ⟨at_end, -⟩ | ⟨at_end, -⟩ := execRxByte_cases s b
  · exact next
  · exact absurd h (not_framingError_of_acceptsByte right)
  all_goals omega

/-- R117: a wrong checksum. -/
theorem execRxByte_mismatch {s : State} {b : Byte} (h : 9 + s.frameLength ≤ s.pos.toNat) (hb : b ≠ s.csum) :
    execRxByte b s = .next s.checksumMismatch := by
  obtain ⟨early, -⟩ | ⟨early, -⟩ | ⟨-, -, next⟩ | ⟨-, right, -⟩ := execRxByte_cases s b
  · have := pos_le_of_framingError early
    omega
  · have := pos_lt_of_acceptsByte early
    omega
  · exact next
  · exact absurd right hb

/-- R118: the right checksum. -/
theorem execRxByte_match {s : State} {b : Byte} (h : 9 + s.frameLength ≤ s.pos.toNat) (hb : b = s.csum) :
    execRxByte b s = .next (s.checksumMatch (s.buf.read 7) (s.buf.readList 9 s.frameLength)) := by
  obtain ⟨early, -⟩ | ⟨early, -⟩ | ⟨-, wrong, -⟩ | ⟨-, -, next⟩ := execRxByte_cases s b
  · have := pos_le_of_framingError early
    omega
  · have := pos_lt_of_acceptsByte early
    omega
  · exact absurd hb wrong
  · exact next

/-! ## The step class that the position selects (R126, R96) -/

/-- The selected class is the whole step. -/
theorem exec_of_decodeStep {s : State} {b : Byte} {i : Instr}
    (h : decodeStep s.pos.toNat (s.buf.read 8) b = some i) : exec i s = exec (.rxByte b) s := by
  unfold decodeStep at h
  split_ifs at h with h5 h6 h7 h8 hL hC <;> rw [Option.some.injEq] at h <;> subst h
  · rw [exec_pPreamble h5]
    exact (if_pos h5).symm
  · rw [exec_pVersion h6]
    exact ((if_neg h5).trans (if_pos h6)).symm
  · rw [exec_pType h7]
    exact ((if_neg h5).trans ((if_neg h6).trans (if_pos (by omega)))).symm
  · rw [exec_pLength h8]
    exact ((if_neg h5).trans ((if_neg h6).trans (if_pos (by omega)))).symm
  · have accepted : acceptsByte s b := .inr (.inr (.inr (.inr ⟨by omega, hL⟩)))
    rw [exec_pPayload (by omega) hL, exec_rxByte, execRxByte_accepted accepted]
    exact accept_eq (acceptsByte_lt accepted) b
  · have at_end : s.pos.toNat = 9 + s.frameLength := hC
    rw [exec_pChecksum at_end, exec_rxByte]
    by_cases right : b = s.csum
    · rw [execRxByte_match at_end.ge right, if_neg (not_not.mpr right)]
    · rw [execRxByte_mismatch at_end.ge right, if_pos right]

/-- Every position of the candidate frame selects a class. -/
theorem exists_decodeStep {pos : Nat} {l : Byte} (h : 9 ≤ pos → pos ≤ 9 + l.toNat) (b : Byte) :
    ∃ i, decodeStep pos l b = some i := by
  unfold decodeStep
  split_ifs
  case neg => omega
  all_goals exact ⟨_, rfl⟩

/-! ## The bytes of a frame before its checksum (R80) -/

/-- The preamble. -/
theorem frameBody_preamble {k : Nat} (h : k ≤ 5) (t : Byte) (p : Bytes) :
    (frameBody t p)[k]? = some (preambleAt k) := by
  have in_preamble : k < preamble.length := by rw [length_preamble]; omega
  rw [frameBody, List.append_assoc, List.getElem?_append_left in_preamble]
  exact (preamble_getElem?_eq_some_iff h _).mpr rfl

@[simp] theorem frameBody_version (t : Byte) (p : Bytes) : (frameBody t p)[6]? = some version := rfl

@[simp] theorem frameBody_type (t : Byte) (p : Bytes) : (frameBody t p)[7]? = some t := rfl

@[simp] theorem frameBody_length (t : Byte) (p : Bytes) : (frameBody t p)[8]? = some (lengthByte p.length) := rfl

@[simp] theorem drop_frameBody (t : Byte) (p : Bytes) : (frameBody t p).drop 9 = p := rfl

/-- A change of the type byte or of a payload byte leaves the bytes of a frame of the same length. -/
theorem exists_frameBody_set {p : Bytes} {k : Nat} (h : k = 7 ∨ (9 ≤ k ∧ k < 9 + p.length)) (t v : Byte) :
    ∃ t' p', p'.length = p.length ∧ (frameBody t p).set k v = frameBody t' p' := by
  obtain rfl | ⟨payload_from, -⟩ := h
  · exact ⟨v, p, rfl, rfl⟩
  · refine ⟨t, p.set (k - 9) v, by simp, ?_⟩
    have header_length : (preamble ++ [version, t, lengthByte p.length]).length = 9 := rfl
    rw [frameBody, List.set_append_right _ _ (by rw [header_length]; omega), header_length, frameBody, List.length_set]

/-! ## The candidate frame (R21) -/

/-- The candidate has `pos` bytes. -/
@[simp] theorem length_candidate (s : State) : s.candidate.length = s.pos.toNat := by simp [State.candidate]

/-- The bytes of the candidate are those of the buffer. -/
theorem candidate_getElem? {s : State} {k : Nat} (h : k < s.pos.toNat) : s.candidate[k]? = some (s.buf.read k) := by
  rw [State.candidate, getElem?_readList _ _ _ _ h, Nat.zero_add]

/-- Where the candidate is a frame without its checksum, the parser is at the checksum position and the buffer holds the
frame's type and payload. -/
theorem frame_of_candidate {s : State} {t : Byte} {p : Bytes} (fits : p.length ≤ 255)
    (h : s.candidate = frameBody t p) :
    s.pos.toNat = 9 + p.length ∧ s.buf.read 7 = t ∧ s.frameLength = p.length ∧
      s.buf.readList 9 s.frameLength = p := by
  have pos_eq : s.pos.toNat = 9 + p.length := by rw [← length_candidate, h, length_frameBody]
  have type_eq : s.buf.read 7 = t := by
    rw [← Option.some.injEq, ← candidate_getElem? (by omega), h, frameBody_type]
  have length_eq : s.frameLength = p.length := by
    have length_byte : s.buf.read 8 = lengthByte p.length := by
      rw [← Option.some.injEq, ← candidate_getElem? (by omega), h, frameBody_length]
    rw [State.frameLength, length_byte, toNat_lengthByte fits]
  refine ⟨pos_eq, type_eq, length_eq, ?_⟩
  have header_length : (s.buf.readList 0 9).length = 9 := length_readList _ _ _
  have two_parts : s.candidate = s.buf.readList 0 9 ++ s.buf.readList 9 s.frameLength := by
    rw [State.candidate, pos_eq, length_eq, readList_add, Nat.zero_add]
  rw [← drop_frameBody t p, ← h, two_parts, List.drop_left' header_length]

/-! ## Receiving a frame (R110, R126) -/

/-- `s` after the bytes `bs` were accepted from position 0 on. -/
def State.received (s : State) (bs : Bytes) : State :=
  { s with pos := BitVec.ofNat 9 bs.length, buf := s.buf.writeList 0 bs, csum := sum8 bs }

/-- Nothing received. -/
theorem received_nil {s : State} (hpos : s.pos = 0#9) (hcsum : s.csum = 0x00#8) : s.received [] = s := by
  simp [State.received, Memory.writeList, sum8, ← hpos, ← hcsum]

/-- The position after the received bytes. -/
theorem received_pos {bs : Bytes} (h : bs.length ≤ bufSize) (s : State) : (s.received bs).pos.toNat = bs.length := by
  unfold bufSize at h
  simp only [State.received, BitVec.toNat_ofNat]
  omega

/-- One byte more is stored behind the received ones. -/
theorem stored_received {bs : Bytes} (h : bs.length < bufSize) (s : State) (b : Byte) :
    stored (s.received bs) b = s.received (bs ++ [b]) := by
  have buf_eq : (s.received bs).buf.write (s.received bs).pos.toNat b = s.buf.writeList 0 (bs ++ [b]) := by
    rw [received_pos h.le, writeList_concat, Nat.zero_add]
    rfl
  have csum_eq : (s.received bs).csum + b = sum8 (bs ++ [b]) := (sum8_concat bs b).symm
  have pos_eq : (s.received bs).pos + 1#9 = BitVec.ofNat 9 (bs ++ [b]).length := by
    rw [List.length_append, List.length_singleton, BitVec.ofNat_add]
    rfl
  rw [stored, buf_eq, csum_eq, pos_eq]
  rfl

/-- The candidate is what was received. -/
theorem received_candidate {s : State} {bs : Bytes} (hwf : s.buf.wf = true) (h : bs.length ≤ bufSize) :
    (s.received bs).candidate = bs := by
  rw [State.candidate, received_pos h]
  exact readList_writeList hwf bs h

/-- Every byte of a frame before its checksum is accepted where the bytes before it were. -/
theorem acceptsByte_received {s : State} {t b : Byte} {p bs : Bytes} (hwf : s.buf.wf = true) (fits : p.length ≤ 255)
    (h : bs ++ [b] <+: frameBody t p) : acceptsByte (s.received bs) b := by
  have bs_short : bs.length + 1 ≤ 9 + p.length := by simpa using h.length_le
  have in_buffer : bs.length ≤ bufSize := by unfold bufSize; omega
  have in_frame {k : Nat} (hk : k < bs.length + 1) : (frameBody t p)[k]? = (bs ++ [b])[k]? := by
    have in_range : k < (bs ++ [b]).length := by simpa using hk
    rw [List.prefix_iff_getElem?.mp h k in_range, List.getElem?_eq_getElem in_range]
  have b_read : (frameBody t p)[bs.length]? = some b := by simp [in_frame]
  unfold acceptsByte
  rw [received_pos in_buffer]
  by_cases in_preamble : bs.length ≤ 5
  · rw [frameBody_preamble in_preamble, Option.some.injEq] at b_read
    exact .inl ⟨in_preamble, b_read.symm⟩
  by_cases at_version : bs.length = 6
  · rw [at_version, frameBody_version, Option.some.injEq] at b_read
    exact .inr (.inl ⟨at_version, b_read.symm⟩)
  by_cases in_payload : 9 ≤ bs.length
  · have length_byte : (s.received bs).buf.read 8 = lengthByte p.length := by
      have at_eight : 8 < (s.received bs).pos.toNat := by rw [received_pos in_buffer]; omega
      rw [← Option.some.injEq, ← candidate_getElem? at_eight, received_candidate hwf in_buffer, ← frameBody_length t p,
        in_frame (by omega), List.getElem?_append_left (by omega)]
    have length_eq : (s.received bs).frameLength = p.length := by
      rw [State.frameLength, length_byte, toNat_lengthByte fits]
    exact .inr (.inr (.inr (.inr ⟨in_payload, by omega⟩)))
  · omega

/-- One received byte of a frame, as a step of its own. -/
theorem execRxByte_received {s : State} {t b : Byte} {p bs : Bytes} (hwf : s.buf.wf = true) (fits : p.length ≤ 255)
    (h : bs ++ [b] <+: frameBody t p) : execRxByte b (s.received bs) = .next (s.received (bs ++ [b])) := by
  have bs_short : bs.length + 1 ≤ 9 + p.length := by simpa using h.length_le
  rw [execRxByte_accepted (acceptsByte_received hwf fits h), stored_received (by unfold bufSize; omega)]

section Idle

variable {s : State} (hpos : s.pos = 0#9) (hcsum : s.csum = 0x00#8) (hwf : s.buf.wf = true)
include hpos hcsum hwf

/-- Receiving the first bytes of a frame, by induction on their number. -/
theorem receive_frame {t : Byte} {p : Bytes} (fits : p.length ≤ 255) (bs : Bytes) (h : bs <+: frameBody t p) :
    receive bs s = .next (s.received bs) := by
  induction bs using List.reverseRecOn with
  | nil => rw [received_nil hpos hcsum, receive]
  | append_singleton bs b ih =>
    rw [receive_append, ih ((List.prefix_append bs [b]).trans h)]
    simp only [receive, exec_rxByte, execRxByte_received hwf fits h]

/-- Taking the first bytes of a frame as pending events, by induction on their number. -/
theorem runSteps_frame {t : Byte} {p : Bytes} (fits : p.length ≤ 255) (env : Env) (bs : Bytes)
    (h : bs <+: frameBody t p) : ∀ rest : List Input, s.input = rxEvents env bs ++ rest →
    ∃ u, runSteps bs.length s = .next u ∧ u.input = rest ∧
      ∀ rest', u.take env rest' = (s.take env rest').received bs := by
  induction bs using List.reverseRecOn with
  | nil =>
    intro rest pending
    refine ⟨s, rfl, pending, fun rest' => (received_nil (s := s.take env rest') hpos hcsum).symm⟩
  | append_singleton bs b ih =>
    intro rest pending
    obtain ⟨u, run, u_pending, u_taken⟩ := ih ((List.prefix_append bs [b]).trans h)
      (.event (.rxByte b) env :: rest) (by simpa [rxEvents] using pending)
    have step_eq : step u = .next ((s.take env rest).received (bs ++ [b])) := by
      have taken : step u = execRxByte b (u.take env rest) := by
        rw [step, u_pending]
        rfl
      rw [taken, u_taken]
      exact execRxByte_received (s := s.take env rest) hwf fits h
    refine ⟨(s.take env rest).received (bs ++ [b]), ?_, rfl, fun _ => rfl⟩
    rw [List.length_append, List.length_singleton, runSteps_succ, run]
    exact step_eq

end Idle

/-- The checksum byte behind a frame's bytes decides: the frame is completed, or `InvalidRpc` is raised. -/
theorem execRxByte_of_candidate {s : State} {t : Byte} {p : Bytes} (fits : p.length ≤ 255)
    (h : s.candidate = frameBody t p) (b : Byte) :
    execRxByte b s = .next (if b = s.csum then s.checksumMatch t p else s.checksumMismatch) := by
  obtain ⟨pos_eq, type_eq, length_eq, payload_eq⟩ := frame_of_candidate fits h
  have at_end : 9 + s.frameLength ≤ s.pos.toNat := by omega
  split_ifs with right
  · rw [execRxByte_match at_end right, type_eq, payload_eq]
  · exact execRxByte_mismatch at_end right

/-- The completion of a frame does not depend on the parser's registers. -/
theorem checksumMatch_congr {s u : State} (h : s.resetParser = u.resetParser) (t : Byte) (p : Bytes) :
    s.checksumMatch t p = u.checksumMatch t p := by
  have completed (x : State) :
      x.checksumMatch t p =
        ((frameEffect x.resetParser.cfg x.resetParser.env t p).apply x.resetParser).refreshDeadline := by
    rw [checksumMatch_eq]
    rfl
  rw [completed, completed, h]

/-! ## The parser's invariant (R20 to R22) -/

/-- The invariant speaks of the parser's registers alone. -/
theorem parserInv_congr {s t : State} (h : s.ParserInv) (hpos : t.pos = s.pos) (hbuf : t.buf = s.buf)
    (hcsum : t.csum = s.csum) : t.ParserInv := by
  have candidate_eq : t.candidate = s.candidate := by rw [State.candidate, State.candidate, hpos, hbuf]
  have length_eq : t.frameLength = s.frameLength := by rw [State.frameLength, State.frameLength, hbuf]
  refine ⟨hbuf ▸ h.canonical, hpos ▸ h.posRange, ?_, ?_, ?_⟩
  · rw [hpos, length_eq]
    exact h.posInFrame
  · rw [candidate_eq, hpos]
    exact h.header
  · rw [hcsum, candidate_eq]
    exact h.sum

/-- At position 0 with an empty sum there is nothing but the buffer's form to keep. -/
theorem parserInv_of_start {s : State} (hpos : s.pos = 0#9) (hcsum : s.csum = 0x00#8) (hwf : s.buf.wf = true) :
    s.ParserInv := by
  have empty : s.candidate = [] := by
    rw [State.candidate, hpos]
    rfl
  refine ⟨hwf, ?_, ?_, ?_, ?_⟩
  · simp [hpos]
  · simp [hpos]
  · simp [hpos, empty]
  · rw [hcsum, empty]
    rfl

/-- The byte that is accepted at a header position is the header's. -/
theorem header_of_acceptsByte {s : State} {b : Byte} (h : acceptsByte s b) (early : s.pos.toNat ≤ 6) :
    (preamble ++ [version])[s.pos.toNat]? = some b := by
  obtain ⟨in_preamble, right⟩ | ⟨at_six, right⟩ | _ | _ | ⟨_, -⟩ := h
  · rw [List.getElem?_append_left (by rw [length_preamble]; omega)]
    exact (preamble_getElem?_eq_some_iff in_preamble b).mpr right
  · rw [at_six, right]
    rfl
  all_goals omega

/-- An accepted byte keeps the invariant. -/
theorem parserInv_stored {s : State} {b : Byte} (h : s.ParserInv) (accepted : acceptsByte s b) :
    (stored s b).ParserInv := by
  have in_buffer := acceptsByte_lt accepted
  have before_end := pos_lt_of_acceptsByte accepted
  have pos_eq := stored_pos in_buffer b
  have candidate_eq := stored_candidate h.canonical in_buffer b
  have in_buffer' : s.pos.toNat < 264 := in_buffer
  refine ⟨wf_write b in_buffer h.canonical, by omega, fun _ => ?_, ?_, ?_⟩
  · by_cases at_length : s.pos.toNat ≤ 8
    · omega
    · have length_eq : (stored s b).frameLength = s.frameLength := by
        have length_byte : (stored s b).buf.read 8 = s.buf.read 8 := read_write_other b (by omega)
        rw [State.frameLength, State.frameLength, length_byte]
      omega
  · rw [candidate_eq, pos_eq]
    by_cases early : s.pos.toNat ≤ 6
    · have short : s.candidate.take 7 = s.candidate := List.take_of_length_le (by simp; omega)
      have header := h.header
      rw [short] at header
      have next_byte := header_of_acceptsByte accepted early
      rw [List.take_of_length_le (by simp; omega), List.take_add_one, next_byte, ← header, Option.toList_some]
    · have whole {n : Nat} (hn : 7 ≤ n) : (preamble ++ [version]).take n = preamble ++ [version] :=
        List.take_of_length_le hn
      rw [List.take_append_of_le_length (by simp; omega), h.header, whole (by omega), whole (by omega)]
  · have csum_eq : (stored s b).csum = s.csum + b := rfl
    rw [csum_eq, h.sum, candidate_eq, sum8_concat]

/-- The content that a `Reset` leaves in the buffer is in canonical form. -/
theorem wf_resetAll (s : State) : s.resetAll.buf.wf = true :=
  wf_writeList (m := []) _ (by simp) rfl

/-! ## The frame that the buffer holds (R118, R123) -/

/-- At the checksum position the candidate is the frame of the type and the payload in the buffer. -/
theorem candidate_eq_frameBody {s : State} (h : s.ParserInv) (at_end : s.pos.toNat = 9 + s.frameLength) :
    s.candidate = frameBody (s.buf.read 7) (s.buf.readList 9 s.frameLength) := by
  have split : s.candidate =
      s.buf.readList 0 7 ++ ([s.buf.read 7, s.buf.read 8] ++ s.buf.readList 9 s.frameLength) := by
    rw [State.candidate, at_end, readList_add, readList_add _ 0 7 2, List.append_assoc]
    rfl
  have header : s.buf.readList 0 7 = preamble ++ [version] := by
    have accepted := h.header
    rwa [split, List.take_left' (length_readList _ _ _),
      List.take_of_length_le (l := preamble ++ [version]) (by simp; omega)] at accepted
  have length_byte : lengthByte (s.buf.readList 9 s.frameLength).length = s.buf.read 8 := by
    rw [length_readList, State.frameLength, lengthByte, BitVec.ofNat_toNat, BitVec.setWidth_eq]
  rw [split, header, frameBody, length_byte]
  simp

/-- A candidate and a byte that are a frame: the candidate is all of it but the checksum, the byte is the sum. -/
theorem frame_of_decodeFrame {s : State} {b : Byte} {i : Instr} (h : s.ParserInv)
    (decoded : decodeFrame (s.candidate ++ [b]) = .ok (i, [])) :
    ∃ t p, p.length ≤ 255 ∧ i = frameInstr t p ∧ s.candidate = frameBody t p ∧ b = s.csum := by
  obtain ⟨t, p, fits, i_eq, is_frame⟩ := makeFrame_of_decodeFrame decoded
  rw [List.append_nil, makeFrame] at is_frame
  obtain ⟨candidate_eq, checksum⟩ := List.append_inj' is_frame (by simp)
  refine ⟨t, p, fits, i_eq, candidate_eq, ?_⟩
  rw [h.sum, candidate_eq]
  exact List.singleton_inj.mp checksum

end Sys2Proof.Machine

open Sys2Proof Sys2Proof.Machine

/-- Settles O37: all bytes but the last are received (`runSteps_frame`), and the last one completes the frame. -/
theorem receivingAFrameRunsItsInstruction : Obligations.ReceivingAFrameRunsItsInstruction := by
  unfold Obligations.ReceivingAFrameRunsItsInstruction
  intro i w env rest s is_frame well_formed encoded pos_zero csum_zero canonical pending
  obtain ⟨t, p, fits, rfl⟩ := exists_frameInstr is_frame well_formed
  rw [encode_frameInstr, Option.some.injEq] at encoded
  subst encoded
  have in_buffer : (frameBody t p).length ≤ bufSize := by rw [length_frameBody]; unfold bufSize; omega
  obtain ⟨u, run, u_pending, u_taken⟩ := runSteps_frame pos_zero csum_zero canonical fits env (frameBody t p)
    List.prefix_rfl (.event (.rxByte (sum8 (frameBody t p))) env :: rest)
    (by rw [pending, makeFrame]; simp [rxEvents])
  have last_step : step u = execRxByte (sum8 (frameBody t p)) ((s.take env rest).received (frameBody t p)) := by
    rw [step, u_pending, ← u_taken]
    rfl
  have candidate_eq : ((s.take env rest).received (frameBody t p)).candidate = frameBody t p :=
    received_candidate (s := s.take env rest) canonical in_buffer
  have run_length : (makeFrame t p).length = (frameBody t p).length + 1 := by simp [makeFrame]
  calc runSteps (makeFrame t p).length s = step u := by rw [run_length, runSteps_succ, run]
    _ = .next (((s.take env rest).received (frameBody t p)).checksumMatch t p) := by
      rw [last_step, execRxByte_of_candidate fits candidate_eq]
      exact congrArg Host.Outcome.next (if_pos rfl)
    _ = _ := by
      rw [exec_frameInstr, dropLast_makeFrame]
      refine congrArg Host.Outcome.next (checksumMatch_congr ?_ t p)
      rfl

/-- Settles O50: each case of `Stepped` keeps the invariant. -/
theorem stepKeepsParserInvariant : Obligations.StepKeepsParserInvariant := by
  unfold Obligations.StepKeepsParserInvariant
  intro s s' inv stepped
  cases stepped_of_step stepped with
  | idle => exact inv
  | configured => exact parserInv_congr inv rfl rfl rfl
  | reset => exact parserInv_of_start rfl rfl (wf_resetAll _)
  | @ticked env rest =>
    have only := managerOnly_ticked (s.take env rest)
    exact parserInv_congr inv only.pos only.buf only.csum
  | rejected => exact parserInv_of_start rfl rfl inv.canonical
  | accepted _ right => exact parserInv_stored (parserInv_congr inv rfl rfl rfl) right
  | mismatched => exact parserInv_of_start rfl rfl inv.canonical
  | completed => exact parserInv_of_start rfl rfl inv.canonical

/-- Settles O33: `P_CHECKSUM` and `P_CHECKSUM_MATCH` take the match path, which is the frame's row. -/
theorem rightChecksumRunsTheFrame : Obligations.RightChecksumRunsTheFrame := by
  unfold Obligations.RightChecksumRunsTheFrame
  intro b s at_end right
  have at_end' : s.pos.toNat = 9 + s.frameLength := at_end
  have type_read : s.memReadByte 7 = some (s.buf.read 7) := memReadByte_eq (by omega)
  have payload_read : s.memRead 9 s.frameLength = some (s.buf.readList 9 s.frameLength) := memRead_eq (by omega)
  have exec_eq : exec (.pChecksumMatch b) s = execPChecksumMatch b s := rfl
  refine ⟨_, exec_frameInstr _ _ s, ?_, ?_⟩
  · rw [exec_pChecksum at_end', if_neg (not_not.mpr right)]
    rfl
  · rw [exec_eq, execPChecksumMatch, if_pos ⟨(atChecksum_iff s).mpr at_end, right⟩, type_read, payload_read]
    rfl

/-- Settles O36: none of the four outcomes of `RxByte` is a stop, and each writes the parser's and the command's fields
only. -/
theorem rxByteAlwaysGoesOn : Obligations.RxByteAlwaysGoesOn := by
  unfold Obligations.RxByteAlwaysGoesOn
  intro b s
  rw [exec_rxByte]
  obtain ⟨-, outcome⟩ | ⟨-, outcome⟩ | ⟨-, -, outcome⟩ | ⟨-, -, outcome⟩ := execRxByte_cases s b <;> rw [outcome]
  · exact ⟨_, rfl, rfl, rfl, rfl, rfl, rfl, rfl, rfl, fun _ _ => rfl, List.prefix_rfl⟩
  · exact ⟨_, rfl, rfl, rfl, rfl, rfl, rfl, rfl, rfl, fun _ other => read_write_other b other, List.prefix_rfl⟩
  · rw [checksumMismatch_eq]
    exact ⟨_, rfl, rfl, rfl, rfl, rfl, rfl, rfl, rfl, fun _ _ => rfl, List.prefix_append _ _⟩
  · rw [checksumMatch_eq]
    exact ⟨_, rfl, rfl, rfl, rfl, rfl, rfl, rfl, rfl, fun _ _ => rfl, List.prefix_append _ _⟩

/-- Settles O35: a class is selected, it is the whole step, and the whole step goes on. -/
theorem rxByteRunsTheSelectedClass : Obligations.RxByteRunsTheSelectedClass := by
  unfold Obligations.RxByteRunsTheSelectedClass
  intro b s in_frame
  obtain ⟨i, selected⟩ := exists_decodeStep in_frame b
  obtain ⟨t, goes_on, -⟩ := rxByteAlwaysGoesOn b s
  exact ⟨i, t, selected, (exec_of_decodeStep selected).trans goes_on, goes_on⟩

/-- Settles O38: the changed bytes are still accepted one by one, and the kept checksum is not their sum. -/
theorem mutatedFrameRaisesInvalidRpc : Obligations.MutatedFrameRaisesInvalidRpc := by
  unfold Obligations.MutatedFrameRaisesInvalidRpc
  intro t p k v s fits position changed pos_zero csum_zero canonical
  have before_checksum : k < 9 + p.length := by omega
  rw [getElem?_makeFrame before_checksum] at changed
  have wrong_sum : sum8 (frameBody t p) ≠ sum8 ((frameBody t p).set k v) :=
    (sum8_set_ne (by simpa using before_checksum) changed).symm
  obtain ⟨t', p', same_length, changed_eq⟩ := exists_frameBody_set position t v
  have fits' : p'.length ≤ 255 := by omega
  have in_buffer : (frameBody t' p').length ≤ bufSize := by rw [length_frameBody]; unfold bufSize; omega
  rw [set_makeFrame before_checksum, changed_eq, receive_append,
    receive_frame pos_zero csum_zero canonical fits' _ List.prefix_rfl]
  rw [changed_eq] at wrong_sum
  have last_byte : execRxByte (sum8 (frameBody t p)) (s.received (frameBody t' p')) =
      .next (s.received (frameBody t' p')).checksumMismatch := by
    rw [execRxByte_of_candidate fits' (received_candidate canonical in_buffer)]
    exact congrArg Host.Outcome.next (if_neg wrong_sum)
  simp only [receive, exec_rxByte, last_byte, checksumMismatch_eq, errorOutputs_eq_raised]
  rw [← pos_zero, ← csum_zero]
  rfl

/-- Settles O40: by the invariant the candidate and the byte are a frame exactly where the byte is the checksum of the
frame in the buffer. -/
theorem stepRunsTheDecodedFrame : Obligations.StepRunsTheDecodedFrame := by
  unfold Obligations.StepRunsTheDecodedFrame
  intro b env rest s inv pending
  constructor
  · intro i decoded
    obtain ⟨t, p, fits, rfl, candidate_eq, right⟩ := frame_of_decodeFrame inv decoded
    have step_eq : step s = execRxByte b (s.take env rest) := by
      rw [step, pending]
      rfl
    have candidate_eq' : (s.take env rest).candidate = frameBody t p := candidate_eq
    rw [step_eq, execRxByte_of_candidate fits candidate_eq', exec_frameInstr]
    exact congrArg Host.Outcome.next (if_pos right)
  · intro _ at_end right
    have candidate_eq := candidate_eq_frameBody inv at_end
    have is_frame : s.candidate ++ [b] =
        makeFrame (s.buf.read 7) (s.buf.readList 9 s.frameLength) ++ [] := by
      rw [List.append_nil, makeFrame, ← candidate_eq, right, inv.sum]
    rw [is_frame]
    exact decodeFrame_makeFrame (by rw [length_readList]; exact frameLength_le s) _ _

/-- Settles O39: one evaluation of `step` for each kind of input. -/
theorem stepRunsTheNextEvent : Obligations.StepRunsTheNextEvent := by
  unfold Obligations.StepRunsTheNextEvent
  refine ⟨?idle, ?rxByte, ?tick, ?reset, ?configure⟩
  case idle =>
    intro s pending
    rw [step, pending]
  case rxByte =>
    intro b env rest s pending
    rw [step, pending]
    rfl
  case tick =>
    intro env rest s pending
    rw [step, pending]
    rfl
  case reset =>
    intro env rest s pending
    rw [step, pending]
    rfl
  case configure =>
    intro c rest s pending
    rw [step, pending]
    constructor
    · intro not_started
      simp [State.configure, not_started]
    · intro started
      simp [State.configure, started]

/-- Settles O34: each premise denies the condition under which the class goes on. -/
theorem stepClassesStopWhereNotSelected : Obligations.StepClassesStopWhereNotSelected := by
  unfold Obligations.StepClassesStopWhereNotSelected
  intro b s
  refine ⟨?preamble, ?version, ?type, ?length, ?payload, ?checksum, ?mismatch, ?matching⟩
  case preamble => exact fun later => if_neg (Nat.not_le.mpr later)
  case version => exact fun elsewhere => if_neg elsewhere
  case type => exact fun elsewhere => if_neg elsewhere
  case length => exact fun elsewhere => if_neg elsewhere
  case payload =>
    intro outside
    refine if_neg ?_
    rintro ⟨from_nine, to_end⟩
    rw [State.frameLength] at to_end
    omega
  case checksum => exact fun elsewhere => if_neg (mt (atChecksum_iff s).mp elsewhere)
  case mismatch =>
    intro denied
    refine if_neg ?_
    rintro ⟨at_end, wrong⟩
    exact denied.elim (absurd ((atChecksum_iff s).mp at_end)) wrong
  case matching =>
    intro denied
    refine if_neg ?_
    rintro ⟨at_end, right⟩
    exact denied.elim (absurd ((atChecksum_iff s).mp at_end)) (absurd right)

end

section
/-! PROOFS. The RPC state machine over whole steps: the status registers follow the frames in `TX`, and when they and
`TX` move. -/

namespace Sys2Proof.Machine

/-! ## The last frame of a type (R180) -/

/-- The payload byte of the last frame of a type, where there is one. -/
def lastSeen (t : Byte) (fs : List Bytes) : Option Byte :=
  ((fs.filter fun f => byteAt f 7 = t).getLast?).map fun f => byteAt f 9

/-- `lastPayload` is the last one seen, and 00 where there is none. -/
theorem lastPayload_eq (t : Byte) (fs : List Bytes) : lastPayload t fs = (lastSeen t fs).getD 0x00#8 := by
  unfold lastPayload lastSeen
  cases (fs.filter fun f => byteAt f 7 = t).getLast? <;> rfl

@[simp] theorem lastSeen_nil (t : Byte) : lastSeen t [] = none := rfl

/-- What was seen last is what the later frames say, and what the earlier ones say where those say nothing. -/
theorem lastSeen_append (t : Byte) (fs gs : List Bytes) :
    lastSeen t (fs ++ gs) = (lastSeen t gs).or (lastSeen t fs) := by
  unfold lastSeen
  rw [List.filter_append, List.getLast?_append]
  cases (gs.filter fun f => byteAt f 7 = t).getLast? <;> rfl

/-- One frame in front. -/
theorem lastSeen_cons (t : Byte) (f : Bytes) (gs : List Bytes) :
    lastSeen t (f :: gs) = (lastSeen t gs).or (if byteAt f 7 = t then some (byteAt f 9) else none) := by
  rw [← List.singleton_append, lastSeen_append]
  by_cases same_type : byteAt f 7 = t <;> simp [lastSeen, same_type]

/-- Frames of other types say nothing. -/
theorem lastSeen_eq_none {t : Byte} {fs : List Bytes} (h : ∀ f ∈ fs, byteAt f 7 ≠ t) : lastSeen t fs = none := by
  have no_frame : fs.filter (fun f => byteAt f 7 = t) = [] := by simpa [List.filter_eq_nil_iff] using h
  rw [lastSeen, no_frame]
  rfl

/-- The later frames decide the last payload. -/
theorem lastPayload_append (t : Byte) (fs gs : List Bytes) :
    lastPayload t (fs ++ gs) = (lastSeen t gs).getD (lastPayload t fs) := by
  rw [lastPayload_eq, lastPayload_eq, lastSeen_append]
  cases lastSeen t gs <;> rfl

/-- The type byte of a frame. -/
@[simp] theorem byteAt_makeFrame_type (t : Byte) (p : Bytes) : byteAt (makeFrame t p) 7 = t := rfl

/-- The first payload byte of a frame. -/
@[simp] theorem byteAt_makeFrame_payload (t v : Byte) (p : Bytes) : byteAt (makeFrame t (v :: p)) 9 = v := rfl

/-! ## The frames among a command's outputs -/

/-- The frames of a list of outputs. -/
def framesOf (outs : List Output) : List Bytes := outs.filterMap Output.frame?

@[simp] theorem framesOf_nil : framesOf [] = [] := rfl

@[simp] theorem framesOf_tx (f : Bytes) (outs : List Output) : framesOf (.tx f :: outs) = f :: framesOf outs := rfl

@[simp] theorem framesOf_net (r : NetRequest) (outs : List Output) : framesOf (.net r :: outs) = framesOf outs := rfl

@[simp] theorem framesOf_sto (o : StoOp) (outs : List Output) : framesOf (.sto o :: outs) = framesOf outs := rfl

@[simp] theorem framesOf_append (xs ys : List Output) : framesOf (xs ++ ys) = framesOf xs ++ framesOf ys :=
  List.filterMap_append

@[simp] theorem framesOf_notification (hs : List Handle) (e : ObsEvent) : framesOf (notification hs e) = [] :=
  frames_notification hs e

/-- Raising an error puts out one frame (R222). -/
@[simp] theorem framesOf_errorOutputs (c : Config) (e : Byte) :
    framesOf (errorOutputs c e) = [makeFrame 0x02#8 [e]] := by
  rw [errorOutputs_eq_raised, raised, framesOf_tx, makeFrame_error]
  split_ifs <;> simp

/-- The log `TX` after an effect. -/
theorem apply_tx (e : CommandEffect) (s : State) : (e.apply s).tx = s.tx ++ framesOf e.outs := List.filterMap_append

/-- Every frame among the outputs is an RPC response of a payload that fits (R93, R155). -/
def OnlyResponses (outs : List Output) : Prop :=
  ∀ f ∈ framesOf outs, ∃ p : Bytes, 2 ≤ p.length ∧ p.length ≤ 255 ∧ f = makeFrame 0x04#8 p

/-- A response is a response (R153). -/
theorem onlyResponses_responseOutputs (tag : Byte) (fields : List Bytes) :
    OnlyResponses (responseOutputs tag fields) := by
  by_cases fits : responseFits fields
  · have data_fits := fits.2
    rw [responseOutputs_of_fits fits]
    intro f hf
    rw [framesOf_tx, framesOf_nil, List.mem_singleton] at hf
    exact ⟨_, by simp, by simp; omega, hf⟩
  · rw [responseOutputs_of_not_fits fits]
    exact fun _ hf => absurd hf List.not_mem_nil

/-- The answers to a scan list are responses (R175). -/
theorem onlyResponses_networks (l : List ScanEntry) :
    OnlyResponses (l.flatMap fun e => responseOutputs 0x04#8 (networkFields e)) := by
  induction l with
  | nil => exact fun _ hf => absurd hf List.not_mem_nil
  | cons e r ih =>
    intro f hf
    rw [List.flatMap_cons, framesOf_append, List.mem_append] at hf
    exact hf.elim (onlyResponses_responseOutputs _ _ f) (ih f)

/-- Responses are emittable. -/
theorem OnlyResponses.emittable {outs : List Output} (h : OnlyResponses outs) {f : Bytes} (hf : f ∈ framesOf outs) :
    emittable f := .inr (.inr (h f hf))

/-- Responses say nothing about the status registers. -/
theorem OnlyResponses.lastSeen {outs : List Output} (h : OnlyResponses outs) {t : Byte} (ht : t ≠ 0x04#8) :
    lastSeen t (framesOf outs) = none := by
  refine lastSeen_eq_none fun f hf => ?_
  obtain ⟨p, -, -, rfl⟩ := h f hf
  rw [byteAt_makeFrame_type]
  exact ht.symm

/-- A state frame with a legal value is emittable. -/
theorem emittable_state {v : Byte} (h : legalState v = true) : emittable (makeFrame 0x01#8 [v]) := .inl ⟨v, h, rfl⟩

/-- An error frame with a code the block raises is emittable. -/
theorem emittable_error {e : Byte} (h : e.toNat ≤ 3) : emittable (makeFrame 0x02#8 [e]) := .inr (.inl ⟨e, h, rfl⟩)

/-! ## Effects that the frames tell (R180) -/

/-- The effect emits only frames it may, and its writes to the status registers are legal and are what its last frames
of their type say. -/
structure CommandEffect.Told (e : CommandEffect) : Prop where
  frames : ∀ f ∈ framesOf e.outs, emittable f
  prov : lastSeen 0x01#8 (framesOf e.outs) = e.prov
  err : lastSeen 0x02#8 (framesOf e.outs) = e.err
  legal : ∀ v, e.prov = some v → legalState v = true
  raised : ∀ v, e.err = some v → v.toNat ≤ 3

/-- Raising an error code up to 3 (R222). -/
theorem told_errorEffect (c : Config) {code : Byte} (h : code.toNat ≤ 3) : (errorEffect c code).Told where
  frames := by simpa [errorEffect] using emittable_error h
  prov := by simp [errorEffect, lastSeen_cons]
  err := by simp [errorEffect, lastSeen_cons]
  legal := by simp [errorEffect]
  raised := by simpa [errorEffect] using h

/-- An effect that only responds. -/
theorem told_of_onlyResponses {e : CommandEffect} (h : OnlyResponses e.outs) (prov : e.prov = none)
    (err : e.err = none) : e.Told where
  frames := fun _ hf => h.emittable hf
  prov := (h.lastSeen (by decide)).trans prov.symm
  err := (h.lastSeen (by decide)).trans err.symm
  legal := by simp [prov]
  raised := by simp [err]

/-- `GetCurrentState` (R169). -/
theorem told_getCurrentState (c : Config) (env : Env) : (commandEffect c env .getCurrentState).Told := by
  have url := onlyResponses_responseOutputs 0x02#8 [env.deviceUrl]
  have url_emittable : ∀ f ∈ framesOf (responseOutputs 0x02#8 [env.deviceUrl]), emittable f :=
    fun _ hf => url.emittable hf
  simp only [commandEffect]
  split_ifs
  · refine ⟨?_, ?_, ?_, by simp [legalState], by simp⟩
    · simpa using ⟨emittable_state (by decide), url_emittable⟩
    · simp [lastSeen_cons, url.lastSeen]
    · simp [lastSeen_cons, url.lastSeen]
  · refine ⟨?_, ?_, ?_, by simp [legalState], by simp⟩
    · simpa using emittable_state (by decide)
    · simp [lastSeen_cons]
    · simp [lastSeen_cons]

/-- `WifiSettings` (R170 to R173). -/
theorem told_wifiSettings (c : Config) (env : Env) (ssid pw : Bytes) :
    (commandEffect c env (.wifiSettings ssid pw)).Told := by
  have url := onlyResponses_responseOutputs 0x01#8 [env.deviceUrl]
  have url_emittable : ∀ f ∈ framesOf (responseOutputs 0x01#8 [env.deviceUrl]), emittable f :=
    fun _ hf => url.emittable hf
  have provisioning : emittable (makeFrame 0x01#8 [0x03#8]) := emittable_state (by decide)
  have provisioned : emittable (makeFrame 0x01#8 [0x04#8]) := emittable_state (by decide)
  have stopped : emittable (makeFrame 0x01#8 [0x00#8]) := emittable_state (by decide)
  have cleared : emittable (makeFrame 0x02#8 [0x00#8]) := emittable_error (by decide)
  have unable : emittable (makeFrame 0x02#8 [0x03#8]) := emittable_error (by decide)
  simp only [commandEffect]
  split_ifs
  · exact told_errorEffect c (by decide)
  · refine ⟨?_, ?_, ?_, by simp [legalState], by simp⟩
    · simpa [or_imp, forall_and] using ⟨provisioning, provisioned, cleared, url_emittable⟩
    · simp [lastSeen_cons, url.lastSeen]
    · simp [lastSeen_cons, url.lastSeen]
  · refine ⟨?_, ?_, ?_, by simp [legalState], by simp⟩
    · simpa using ⟨provisioning, stopped, unable⟩
    · simp [lastSeen_cons]
    · simp [lastSeen_cons]

/-- Every command (R168). -/
theorem told_commandEffect (c : Config) (env : Env) (cmd : Command) : (commandEffect c env cmd).Told := by
  cases cmd with
  | getCurrentState => exact told_getCurrentState c env
  | wifiSettings ssid pw => exact told_wifiSettings c env ssid pw
  | getDeviceInfo => exact told_of_onlyResponses (onlyResponses_responseOutputs _ _) rfl rfl
  | getWifiNetworks =>
    refine told_of_onlyResponses (fun f hf => ?_) rfl rfl
    rw [commandEffect, framesOf_append, List.mem_append, ← responseOutputs_nil] at hf
    exact hf.elim (onlyResponses_networks _ f) (onlyResponses_responseOutputs _ _ f)
  | unknown => exact told_errorEffect c (by decide)
  | badChecksum => exact told_errorEffect c (by decide)

/-- Every completed frame (R118, R121). -/
theorem told_frameEffect (c : Config) (env : Env) (t : Byte) (p : Bytes) : (frameEffect c env t p).Told := by
  unfold frameEffect
  split_ifs
  · exact told_commandEffect c env _
  · exact told_of_onlyResponses (fun _ hf => absurd hf List.not_mem_nil) rfl rfl

/-! ## The RPC state machine's invariant -/

/-- The invariant speaks of the status registers and the frames in `TX` alone. -/
theorem rpcInv_congr {s t : State} (h : s.RpcInv) (hprov : t.provState = s.provState) (herr : t.errState = s.errState)
    (htx : t.tx = s.tx) : t.RpcInv :=
  ⟨hprov ▸ h.stateLegal, herr ▸ h.errorRaised, htx ▸ h.frames, by rw [hprov, htx, h.stateSeen],
    by rw [herr, htx, h.errorSeen]⟩

/-- An effect that its frames tell keeps the invariant. -/
theorem rpcInv_apply {s : State} {e : CommandEffect} (h : s.RpcInv) (told : e.Told) : (e.apply s).RpcInv where
  stateLegal := by
    rw [apply_provState]
    cases prov : e.prov with
    | none => exact h.stateLegal
    | some v => exact told.legal v prov
  errorRaised := by
    rw [apply_errState]
    cases err : e.err with
    | none => exact h.errorRaised
    | some v => exact told.raised v err
  frames := by
    intro f hf
    rw [apply_tx, List.mem_append] at hf
    exact hf.elim (h.frames f) (told.frames f)
  stateSeen := by rw [apply_provState, apply_tx, lastPayload_append, told.prov, h.stateSeen]
  errorSeen := by rw [apply_errState, apply_tx, lastPayload_append, told.err, h.errorSeen]

/-- Right after a `Reset` the registers hold 00 and nothing was emitted. -/
theorem rpcInv_of_reset {s : State} (hprov : s.provState = 0x00#8) (herr : s.errState = 0x00#8) (hout : s.out = []) :
    s.RpcInv := by
  have no_frames : s.tx = [] := by rw [State.tx, hout, List.filterMap_nil]
  exact ⟨by rw [hprov]; rfl, by simp [herr], by simp [no_frames], by rw [hprov, no_frames]; rfl,
    by rw [herr, no_frames]; rfl⟩

/-! ## Which commands move the status registers (R179, R223) -/

/-- Only `GetCurrentState` and `WifiSettings` with an ssid set `prov_state`. -/
theorem command_of_prov {c : Config} {env : Env} {cmd : Command} (h : (commandEffect c env cmd).prov ≠ none) :
    cmd = .getCurrentState ∨ ∃ ssid pw, ssid ≠ [] ∧ cmd = .wifiSettings ssid pw := by
  cases cmd with
  | getCurrentState => exact .inl rfl
  | wifiSettings ssid pw =>
    refine .inr ⟨ssid, pw, fun empty => h ?_, rfl⟩
    subst empty
    rfl
  | _ => exact absurd rfl h

/-- Only a successful `WifiSettings` with an ssid clears `err_state`. -/
theorem command_of_err_none {c : Config} {env : Env} {cmd : Command}
    (h : (commandEffect c env cmd).err = some 0x00#8) :
    env.tryConnect = true ∧ ∃ ssid pw, ssid ≠ [] ∧ cmd = .wifiSettings ssid pw := by
  cases cmd with
  | getCurrentState =>
    simp only [commandEffect] at h
    split_ifs at h
  | wifiSettings ssid pw =>
    simp only [commandEffect] at h
    split_ifs at h with empty answered
    · simp [errorEffect] at h
    · exact ⟨answered, ssid, pw, empty, rfl⟩
    · simp at h
  | getDeviceInfo => simp [commandEffect] at h
  | getWifiNetworks => simp [commandEffect] at h
  | unknown => simp [commandEffect, errorEffect] at h
  | badChecksum => simp [commandEffect, errorEffect] at h

/-- A frame that is no command has no effect on the status registers. -/
theorem frameEffect_status {c : Config} {env : Env} {t : Byte} {p : Bytes}
    (h : (frameEffect c env t p).prov ≠ none ∨ (frameEffect c env t p).err ≠ none) :
    t = 0x03#8 ∧ frameEffect c env t p = commandEffect c env (decodeCommand p false) := by
  unfold frameEffect at h ⊢
  split_ifs at h ⊢ with command
  · exact ⟨command, rfl⟩
  · simp at h

end Sys2Proof.Machine

open Sys2Proof Sys2Proof.Machine

/-- Settles O51: every effect is told by its frames; the manager and the owner touch neither the registers nor `TX`. -/
theorem stepKeepsRpcInvariant : Obligations.StepKeepsRpcInvariant := by
  unfold Obligations.StepKeepsRpcInvariant
  intro s s' inv stepped
  have taken (env : Env) (rest : List Input) : (s.take env rest).RpcInv := rpcInv_congr inv rfl rfl rfl
  cases stepped_of_step stepped with
  | idle => exact inv
  | configured => exact rpcInv_congr inv rfl rfl rfl
  | reset => exact rpcInv_of_reset rfl rfl rfl
  | @ticked env rest =>
    have only := managerOnly_ticked (s.take env rest)
    exact rpcInv_congr inv only.provState only.errState only.tx
  | rejected => exact rpcInv_congr inv rfl rfl rfl
  | accepted => exact rpcInv_congr inv rfl rfl rfl
  | @mismatched _ env rest =>
    have invalid_rpc : (errorEffect s.cfg 0x01#8).Told := told_errorEffect s.cfg (by decide)
    exact rpcInv_congr (rpcInv_apply (taken env rest) invalid_rpc) rfl rfl rfl
  | @completed _ env rest =>
    exact rpcInv_congr (rpcInv_apply (taken env rest) (told_frameEffect _ _ _ _)) rfl rfl rfl

/-- Settles O55: only a completed frame writes `prov_state`, by its effect. -/
theorem provStateMovesOnlyOnACommand : Obligations.ProvStateMovesOnlyOnACommand := by
  unfold Obligations.ProvStateMovesOnlyOnACommand
  intro s s' stepped moved
  cases stepped_of_step stepped with
  | idle => exact absurd rfl moved
  | configured => exact absurd rfl moved
  | @reset env rest pending => exact .inl ⟨env, rest, pending⟩
  | @ticked env rest => exact absurd (managerOnly_ticked (s.take env rest)).provState moved
  | rejected => exact absurd rfl moved
  | accepted => exact absurd rfl moved
  | mismatched => exact absurd rfl moved
  | @completed b env rest pending at_end right =>
    have written : (frameEffect s.cfg env (s.buf.read 7) (s.buf.readList 9 s.frameLength)).prov ≠ none := by
      intro unwritten
      exact moved (by simp [unwritten])
    obtain ⟨command, effect_eq⟩ := frameEffect_status (.inl written)
    exact .inr ⟨b, env, rest, pending, at_end, right, command, command_of_prov (effect_eq ▸ written)⟩

/-- Settles O56: a wrong checksum raises an error; a completed frame clears `err_state` only as its command says. -/
theorem errStateIsSticky : Obligations.ErrStateIsSticky := by
  unfold Obligations.ErrStateIsSticky
  intro s s' stepped was_set cleared
  cases stepped_of_step stepped with
  | idle => exact absurd cleared was_set
  | configured => exact absurd cleared was_set
  | @reset env rest pending => exact .inl ⟨env, rest, pending⟩
  | @ticked env rest => exact absurd ((managerOnly_ticked (s.take env rest)).errState.symm.trans cleared) was_set
  | rejected => exact absurd cleared was_set
  | accepted => exact absurd cleared was_set
  | mismatched => exact absurd cleared (by simp [errorEffect])
  | @completed b env rest pending at_end right =>
    have written : (frameEffect s.cfg env (s.buf.read 7) (s.buf.readList 9 s.frameLength)).err = some 0x00#8 := by
      cases err : (frameEffect s.cfg env (s.buf.read 7) (s.buf.readList 9 s.frameLength)).err with
      | none => exact absurd (by simpa [err] using cleared) was_set
      | some v =>
        have v_eq : v = 0x00#8 := by simpa [err] using cleared
        rw [v_eq]
    obtain ⟨command, effect_eq⟩ := frameEffect_status (.inr (written.trans_ne (Option.some_ne_none _)))
    obtain ⟨answered, ssid, pw, ssid_ne, decoded⟩ := command_of_err_none (effect_eq ▸ written)
    exact .inr ⟨b, env, rest, ssid, pw, pending, at_end, right, command, ssid_ne, answered, decoded⟩

/-- Settles O57: outputs are appended, and only the two cases at the checksum position append frames. -/
theorem framesLeaveOnlyAtAChecksumByte : Obligations.FramesLeaveOnlyAtAChecksumByte := by
  unfold Obligations.FramesLeaveOnlyAtAChecksumByte
  intro s s' stepped
  cases stepped_of_step stepped with
  | idle => exact .inr ⟨List.prefix_rfl, absurd rfl⟩
  | configured => exact .inr ⟨List.prefix_rfl, absurd rfl⟩
  | @reset env rest pending => exact .inl ⟨env, rest, pending, rfl⟩
  | @ticked env rest =>
    have only := managerOnly_ticked (s.take env rest)
    exact .inr ⟨only.out, absurd only.tx⟩
  | rejected => exact .inr ⟨List.prefix_rfl, absurd rfl⟩
  | accepted => exact .inr ⟨List.prefix_rfl, absurd rfl⟩
  | @mismatched b env rest pending at_end =>
    exact .inr ⟨List.prefix_append _ _, fun _ => ⟨b, env, rest, pending, at_end⟩⟩
  | @completed b env rest pending at_end =>
    exact .inr ⟨List.prefix_append _ _, fun _ => ⟨b, env, rest, pending, at_end⟩⟩

end

section
/-! PROOFS. Content that no rule reads: two states that agree but for it take similar steps. -/

namespace Sys2Proof.Machine

/-! ## What similar states share -/

namespace State.Similar

variable {s t : State}

/-- The other state differs in the unread parts alone. -/
theorem exists_unread (h : s.Similar t) : ∃ buf ssid pw deadline input env,
    t = { s with
      buf := buf, credSsid := ssid, credPassword := pw, attemptDeadline := deadline, input := input, env := env } :=
  ⟨_, _, _, _, _, _, h.same.symm⟩

theorem pos (h : s.Similar t) : t.pos = s.pos := (congrArg State.pos h.same).symm
theorem csum (h : s.Similar t) : t.csum = s.csum := (congrArg State.csum h.same).symm
theorem credValid (h : s.Similar t) : t.credValid = s.credValid := (congrArg State.credValid h.same).symm
theorem credAvailable (h : s.Similar t) : t.credAvailable = s.credAvailable :=
  (congrArg State.credAvailable h.same).symm
theorem retriesDone (h : s.Similar t) : t.retriesDone = s.retriesDone := (congrArg State.retriesDone h.same).symm
theorem lastConnected (h : s.Similar t) : t.lastConnected = s.lastConnected :=
  (congrArg State.lastConnected h.same).symm
theorem failed (h : s.Similar t) : t.failed = s.failed := (congrArg State.failed h.same).symm
theorem cmPhase (h : s.Similar t) : t.cmPhase = s.cmPhase := (congrArg State.cmPhase h.same).symm
theorem cfg (h : s.Similar t) : t.cfg = s.cfg := (congrArg State.cfg h.same).symm
theorem out (h : s.Similar t) : t.out = s.out := (congrArg State.out h.same).symm
theorem started (h : s.Similar t) : t.started = s.started := (congrArg State.started h.same).symm

/-- The bytes of the candidate frame. -/
theorem read (h : s.Similar t) {k : Nat} (hk : k < s.pos.toNat) : t.buf.read k = s.buf.read k := by
  have hk' : k < t.pos.toNat := by rwa [h.pos]
  rw [← Option.some.injEq, ← candidate_getElem? hk, ← candidate_getElem? hk', h.candidate]

/-- The length of the candidate frame, once its length byte was accepted. -/
theorem frameLength (h : s.Similar t) (hk : 9 ≤ s.pos.toNat) : t.frameLength = s.frameLength := by
  rw [State.frameLength, State.frameLength, h.read (by omega)]

/-- The payload of the candidate frame, once it was accepted. -/
theorem payload (h : s.Similar t) (hk : 9 + s.frameLength ≤ s.pos.toNat) :
    t.buf.readList 9 t.frameLength = s.buf.readList 9 s.frameLength := by
  rw [h.frameLength (by omega)]
  exact readList_congr _ _ fun i _ hi => h.read (by omega)

/-- The counter after another attempt. -/
theorem countedRetry (h : s.Similar t) : t.countedRetry = s.countedRetry := by
  rw [State.countedRetry, State.countedRetry, h.retriesDone, h.out]

/-- What a rising edge announces. -/
theorem announced (h : s.Similar t) :
    (if t.credValid then ObsEvent.connected t.credSsid t.credPassword else .connected [] []) =
      if s.credValid then .connected s.credSsid s.credPassword else .connected [] [] := by
  rw [h.credValid]
  split_ifs with valid
  · obtain ⟨ssid_eq, pw_eq⟩ := h.credentials valid
    rw [ssid_eq, pw_eq]
  · rfl

/-- Both states find the same framing errors. -/
theorem framingError {b : Byte} (h : s.Similar t) (wrong : framingError s b) : Machine.framingError t b := by
  unfold Machine.framingError at wrong ⊢
  rwa [h.pos]

/-- Both states accept the same bytes. -/
theorem acceptsByte {b : Byte} (h : s.Similar t) (right : acceptsByte s b) : Machine.acceptsByte t b := by
  unfold Machine.acceptsByte at right ⊢
  rw [h.pos]
  by_cases in_payload : 9 ≤ s.pos.toNat
  · rwa [h.frameLength in_payload]
  · tauto

end State.Similar

/-! ## The updates keep similarity -/

/-- Taking an event whose answers differ in the unread parts alone. -/
theorem similar_take {s t : State} {env env' : Env} {rest rest' : List Input} (h : s.Similar t)
    (hr : rest.map Input.visible = rest'.map Input.visible) : (s.take env rest).Similar (t.take env' rest') := by
  obtain ⟨buf, ssid, pw, deadline, input, env₀, rfl⟩ := h.exists_unread
  exact ⟨rfl, h.candidate, h.credentials, h.deadline, hr⟩

/-- The owner's write of the configuration (R253). -/
theorem similar_configure {s t : State} (h : s.Similar t) {rest rest' : List Input}
    (hr : rest.map Input.visible = rest'.map Input.visible) (c : Config) :
    { s with input := rest, cfg := c, credAvailable := c.credAvailAtReset }.Similar
      { t with input := rest', cfg := c, credAvailable := c.credAvailAtReset } := by
  obtain ⟨buf, ssid, pw, deadline, input, env, rfl⟩ := h.exists_unread
  exact ⟨rfl, h.candidate, h.credentials, h.deadline, hr⟩

/-- The parser starts again: nothing of the candidate is left. -/
theorem similar_resetParser {s t : State} (h : s.Similar t) : s.resetParser.Similar t.resetParser := by
  obtain ⟨buf, ssid, pw, deadline, input, env, rfl⟩ := h.exists_unread
  exact ⟨rfl, rfl, h.credentials, h.deadline, h.input⟩

/-- A stored byte: the two candidates grow alike. -/
theorem similar_stored {s t : State} {b : Byte} (h : s.Similar t) (hs : s.buf.wf = true) (ht : t.buf.wf = true)
    (in_buffer : s.pos.toNat < bufSize) : (stored s b).Similar (stored t b) := by
  have in_buffer' : t.pos.toNat < bufSize := by rwa [h.pos]
  have candidate_eq : (stored s b).candidate = (stored t b).candidate := by
    rw [stored_candidate hs in_buffer, stored_candidate ht in_buffer', h.candidate]
  obtain ⟨buf, ssid, pw, deadline, input, env, rfl⟩ := h.exists_unread
  exact ⟨rfl, candidate_eq, h.credentials, h.deadline, h.input⟩

/-- The effect of a command. -/
theorem similar_apply {s t : State} (h : s.Similar t) (e : CommandEffect) : (e.apply s).Similar (e.apply t) := by
  have credentials : (e.apply s).credValid = true →
      (e.apply s).credSsid = (e.apply t).credSsid ∧ (e.apply s).credPassword = (e.apply t).credPassword := by
    cases creds : e.creds with
    | none => simpa [CommandEffect.apply, creds] using h.credentials
    | some x => simp [CommandEffect.apply, creds]
  obtain ⟨buf, ssid, pw, deadline, input, env, rfl⟩ := h.exists_unread
  exact ⟨rfl, h.candidate, credentials, h.deadline, h.input⟩

/-- The refreshed deadline, at the same time. -/
theorem similar_refreshDeadline {s t : State} (h : s.Similar t) (now : t.env.now = s.env.now) :
    s.refreshDeadline.Similar t.refreshDeadline := by
  rw [State.refreshDeadline, State.refreshDeadline, now]
  obtain ⟨buf, ssid, pw, deadline, input, env, rfl⟩ := h.exists_unread
  exact ⟨rfl, h.candidate, h.credentials, h.deadline, h.input⟩

/-- The event `Reset`: what it leaves behind is not valid. -/
theorem similar_resetAll {s t : State} (h : s.Similar t) : s.resetAll.Similar t.resetAll := by
  obtain ⟨buf, ssid, pw, deadline, input, env, rfl⟩ := h.exists_unread
  exact ⟨rfl, rfl, nofun, nofun, h.input⟩

/-! ## The answers of the environment (R8) -/

/-- A command's effect does not read the answer of `StorageSave` or what a reset leaves behind. -/
theorem commandEffect_visible (c : Config) (env : Env) (cmd : Command) :
    commandEffect c env.visible cmd = commandEffect c env cmd := by
  cases cmd <;> rfl

/-- A completed frame's effect reads the visible answers alone. -/
theorem frameEffect_congr {env env' : Env} (h : env.visible = env'.visible) (c : Config) (t : Byte) (p : Bytes) :
    frameEffect c env t p = frameEffect c env' t p := by
  rw [frameEffect, frameEffect, ← commandEffect_visible c env, h, commandEffect_visible]

section Visible

variable {env env' : Env} (h : env.visible = env'.visible)
include h

theorem now_of_visible : env.now = env'.now := by
  have now_eq : env.visible.now = env'.visible.now := by rw [h]
  exact now_eq

theorem netConnected_of_visible : env.netConnected = env'.netConnected := by
  have connected_eq : env.visible.netConnected = env'.visible.netConnected := by rw [h]
  exact connected_eq

theorem storageLoad_of_visible : env.storageLoad = env'.storageLoad := by
  have load_eq : env.visible.storageLoad = env'.visible.storageLoad := by rw [h]
  exact load_eq

end Visible

/-! ## A received byte -/

/-- Two similar states go the same way with a byte. -/
theorem similar_execRxByte {s t : State} (h : s.Similar t) (hs : s.buf.wf = true) (ht : t.buf.wf = true)
    (henv : s.env.visible = t.env.visible) (b : Byte) : similarOutcome (execRxByte b s) (execRxByte b t) := by
  have at_end_of (at_end : 9 + s.frameLength ≤ s.pos.toNat) : 9 + t.frameLength ≤ t.pos.toNat := by
    rwa [h.pos, h.frameLength (by omega)]
  obtain ⟨wrong, outcome⟩ | ⟨right, outcome⟩ | ⟨at_end, wrong, outcome⟩ | ⟨at_end, right, outcome⟩ :=
    execRxByte_cases s b <;> rw [outcome]
  · rw [execRxByte_rejected (h.framingError wrong)]
    exact similar_resetParser h
  · rw [execRxByte_accepted (h.acceptsByte right)]
    exact similar_stored h hs ht (acceptsByte_lt right)
  · rw [execRxByte_mismatch (at_end_of at_end) (by rwa [h.csum]), checksumMismatch_eq_effect,
      checksumMismatch_eq_effect, h.cfg]
    exact similar_resetParser (similar_apply h _)
  · rw [execRxByte_match (at_end_of at_end) (by rwa [h.csum]), checksumMatch_eq, checksumMatch_eq, h.cfg,
      h.payload at_end, h.read (by omega), frameEffect_congr henv]
    exact similar_resetParser (similar_refreshDeadline (similar_apply h _) (now_of_visible henv).symm)

/-! ## A tick -/

/-- The start of a cycle: credentials are read where they are valid, and the storage's answer is the same. -/
theorem similar_startCycle {s t : State} (h : s.Similar t) (henv : s.env.visible = t.env.visible) :
    s.startCycle.Similar t.startCycle := by
  have load_eq : s.env.storageLoad = t.env.storageLoad := storageLoad_of_visible henv
  have now_eq : s.env.now = t.env.now := now_of_visible henv
  obtain ⟨valid, next⟩ | ⟨invalid, none_stored, next⟩ | ⟨ssid, pw, invalid, found, next⟩ := startCycle_cases s <;>
    obtain ⟨valid', next'⟩ | ⟨invalid', none_stored', next'⟩ | ⟨ssid', pw', invalid', found', next'⟩ :=
      startCycle_cases t
  case inl.inl =>
    obtain ⟨ssid_eq, pw_eq⟩ := h.credentials valid
    rw [next, next', ← ssid_eq, ← pw_eq, ← now_eq]
    obtain ⟨buf, ssid, pw, deadline, input, env, rfl⟩ := h.exists_unread
    exact ⟨rfl, h.candidate, fun _ => ⟨rfl, rfl⟩, fun _ => rfl, h.input⟩
  case inr.inl.inr.inl =>
    rw [next, next']
    obtain ⟨buf, ssid, pw, deadline, input, env, rfl⟩ := h.exists_unread
    exact ⟨rfl, h.candidate, h.credentials, h.deadline, h.input⟩
  case inr.inr.inr.inr =>
    rw [load_eq, found', Option.some.injEq, Prod.mk.injEq] at found
    obtain ⟨rfl, rfl⟩ := found
    rw [next, next', ← now_eq]
    obtain ⟨buf, ssid, pw, deadline, input, env, rfl⟩ := h.exists_unread
    exact ⟨rfl, h.candidate, fun _ => ⟨rfl, rfl⟩, fun _ => rfl, h.input⟩
  -- The other combinations differ in what the two states share: `credValid` or the storage's answer.
  all_goals
    have valid_eq := h.credValid
    simp_all

/-- The success of a cycle, whose credentials are valid. -/
theorem similar_cycleSuccess {s t : State} (h : s.Similar t) (valid : s.credValid = true) :
    s.cycleSuccess.Similar t.cycleSuccess := by
  obtain ⟨ssid_eq, pw_eq⟩ := h.credentials valid
  rw [cycleSuccess_eq s, cycleSuccess_eq t, ← ssid_eq, ← pw_eq]
  obtain ⟨buf, ssid, pw, deadline, input, env, rfl⟩ := h.exists_unread
  exact ⟨rfl, h.candidate, fun _ => ⟨rfl, rfl⟩, nofun, h.input⟩

/-- The timeout of an attempt. -/
theorem similar_cycleTimeout {s t : State} (h : s.Similar t) : s.cycleTimeout.Similar t.cycleTimeout := by
  have counted := h.countedRetry
  by_cases last : s.countedRetry = s.cfg.maxRetries
  · have last' : t.countedRetry = t.cfg.maxRetries := by rw [counted, last, h.cfg]
    rw [cycleTimeout_of_eq last, cycleTimeout_of_eq last', counted]
    obtain ⟨buf, ssid, pw, deadline, input, env, rfl⟩ := h.exists_unread
    exact ⟨rfl, h.candidate, h.credentials, nofun, h.input⟩
  · have not_last' : t.countedRetry ≠ t.cfg.maxRetries := by rwa [counted, h.cfg]
    rw [cycleTimeout_of_ne last, cycleTimeout_of_ne not_last', counted]
    obtain ⟨buf, ssid, pw, deadline, input, env, rfl⟩ := h.exists_unread
    exact ⟨rfl, h.candidate, h.credentials, nofun, h.input⟩

/-- The give-up report. -/
theorem similar_giveUp {s t : State} (h : s.Similar t) : s.giveUp.Similar t.giveUp := by
  obtain ⟨buf, ssid, pw, deadline, input, env, rfl⟩ := h.exists_unread
  exact ⟨rfl, h.candidate, h.credentials, h.deadline, h.input⟩

/-- The attempt policy: the deadline is read while JOINING, where it is the same. -/
theorem similar_tickPolicy {s t : State} (h : s.Similar t) (inv : s.ManagerInv)
    (henv : s.env.visible = t.env.visible) (c : Bool) (now : Time) :
    (s.tickPolicy c now).Similar (t.tickPolicy c now) := by
  have phase := h.cmPhase
  have failed := h.failed
  have gate := h.credAvailable
  obtain ⟨joining, rfl, next⟩ | ⟨joining, rfl, late, next⟩ | ⟨joining, rfl, early, next⟩ |
    ⟨idle, rfl, open_gate, not_failed, next⟩ | ⟨idle, is_failed, next⟩ | ⟨idle, not_failed, closed, next⟩ :=
    tickPolicy_cases s c now <;> rw [next]
  case inl =>
    have next' : t.tickPolicy true now = t.cycleSuccess := by simp [State.tickPolicy, phase, joining]
    rw [next']
    exact similar_cycleSuccess h (inv.joining joining).2
  case inr.inl =>
    have next' : t.tickPolicy false now = t.cycleTimeout := by
      simp [State.tickPolicy, phase, joining, ← h.deadline joining, late]
    rw [next']
    exact similar_cycleTimeout h
  case inr.inr.inl =>
    have next' : t.tickPolicy false now = t := by
      simp [State.tickPolicy, phase, joining, ← h.deadline joining, early]
    rwa [next']
  case inr.inr.inr.inl =>
    have next' : t.tickPolicy false now = t.startCycle := by
      simp [State.tickPolicy, phase, idle, gate, open_gate, failed, not_failed]
    rw [next']
    exact similar_startCycle h henv
  case inr.inr.inr.inr.inl =>
    have next' : t.tickPolicy c now = t.giveUp := by simp [State.tickPolicy, phase, idle, failed, is_failed]
    rw [next']
    exact similar_giveUp h
  case inr.inr.inr.inr.inr =>
    have no_start : ¬ (c = false ∧ s.credAvailable = true) := by
      rintro ⟨not_connected, open_gate⟩
      simp [not_connected, open_gate] at closed
    have next' : t.tickPolicy c now = t := by
      simp [State.tickPolicy, phase, idle, failed, not_failed, gate, no_start]
    rwa [next']

/-- An edge of connectivity: the credentials that it announces are the same. -/
theorem similar_edge {s t : State} (h : s.Similar t) (c : Bool) : (s.edge c).Similar (t.edge c) := by
  have announced_eq := h.announced
  cases c with
  | false =>
    rw [edge_falling, edge_falling]
    obtain ⟨buf, ssid, pw, deadline, input, env, rfl⟩ := h.exists_unread
    exact ⟨rfl, h.candidate, h.credentials, h.deadline, h.input⟩
  | true =>
    rw [edge_rising, edge_rising, announced_eq]
    obtain ⟨buf, ssid, pw, deadline, input, env, rfl⟩ := h.exists_unread
    exact ⟨rfl, h.candidate, h.credentials, h.deadline, h.input⟩

/-- The edge detection: both states observed the same connectivity last. -/
theorem similar_tickEdge {s t : State} (h : s.Similar t) (c : Bool) : (s.tickEdge c).Similar (t.tickEdge c) := by
  rw [State.tickEdge, State.tickEdge, h.lastConnected]
  split_ifs
  · exact similar_edge h c
  · exact h

/-- A tick under the same visible answers. -/
theorem similar_ticked {s t : State} (h : s.Similar t) (inv : s.ManagerInv) (henv : s.env.visible = t.env.visible) :
    s.ticked.Similar t.ticked := by
  have connected_eq : s.env.netConnected = t.env.netConnected := netConnected_of_visible henv
  have now_eq : s.env.now = t.env.now := now_of_visible henv
  rw [State.ticked, State.ticked, ← connected_eq, ← now_eq]
  exact similar_tickEdge (similar_tickPolicy h inv henv _ _) _

end Sys2Proof.Machine

open Sys2Proof Sys2Proof.Machine

/-- Settles O54: the two pending inputs are alike, and each kind of step keeps similarity. -/
theorem unreadContentIsNeverObserved : Obligations.UnreadContentIsNeverObserved := by
  unfold Obligations.UnreadContentIsNeverObserved
  intro s t inv_s inv_t manager_s _ h
  have pending_eq := h.input
  cases pending : s.input with
  | nil =>
    rw [pending, List.map_nil, eq_comm, List.map_eq_nil_iff] at pending_eq
    rw [step, step, pending, pending_eq]
    exact h
  | cons x rest =>
    rw [pending, List.map_cons, eq_comm, List.map_eq_cons_iff] at pending_eq
    obtain ⟨x', rest', pending', head_eq, rest_eq⟩ := pending_eq
    cases x with
    | configure c =>
      cases x' with
      | event => simp [Input.visible] at head_eq
      | configure c' =>
        simp only [Input.visible, Input.configure.injEq] at head_eq
        subst head_eq
        rw [step, step, pending, pending']
        have started_eq := h.started
        cases started : s.started with
        | true => simp [State.configure, started_eq, started, similarOutcome]
        | false =>
          simpa [State.configure, started_eq, started, similarOutcome] using similar_configure h rest_eq.symm c'
    | event e env =>
      cases x' with
      | configure => simp [Input.visible] at head_eq
      | event e' env' =>
        simp only [Input.visible, Input.event.injEq] at head_eq
        obtain ⟨rfl, env_eq⟩ := head_eq
        have taken : (s.take env rest).Similar (t.take env' rest') := similar_take h rest_eq.symm
        rw [step, step, pending, pending']
        cases e' with
        | rxByte b => exact similar_execRxByte taken inv_s.canonical inv_t.canonical env_eq.symm b
        | tick => exact similar_ticked taken (managerInv_take manager_s pending env) env_eq.symm
        | reset => exact similar_resetAll taken

end

section
/-! PROOFS. Reset, the time comparison across the wrap, and the decimal text of a signal strength. -/

namespace Sys2Proof.Machine

/-- The event `Reset` goes on in `resetAll`. -/
theorem exec_reset (s : State) : exec .reset s = .next s.resetAll := rfl

/-- Right after reset no retry is used up, nothing is cached, and the configuration is in range. -/
theorem managerInv_reset : State.reset.ManagerInv where
  retriesBound := by decide
  retriesBelow := by decide
  joining := nofun
  gate := nofun
  ssidFits := Nat.zero_le _
  passwordFits := Nat.zero_le _
  config := by decide
  fresh := fun _ => ⟨rfl, rfl, rfl, rfl⟩
  pending := nofun

/-! ## Decimal text (R182) -/

/-- The decimal digits of `n`, most significant first; `fuel` bounds their number, as in `decDigits`. -/
def digitValues : Nat → Nat → List Nat
  | 0, _ => []
  | fuel + 1, n => if n < 10 then [n] else digitValues fuel (n / 10) ++ [n % 10]

/-- `decDigits` writes the codes of these digits in front of what it is given. -/
theorem decDigits_eq : ∀ (fuel n : Nat) (acc : Bytes),
    decDigits fuel n acc = (digitValues fuel n).map digit ++ acc
  | 0, _, _ => rfl
  | fuel + 1, n, acc => by
    rw [decDigits, digitValues]
    split_ifs
    · rfl
    · rw [decDigits_eq fuel, List.map_append, List.append_assoc]
      rfl

/-- Digits are below ten. -/
theorem digitValues_lt : ∀ (fuel n : Nat), ∀ x ∈ digitValues fuel n, x < 10
  | 0, _ => nofun
  | fuel + 1, n => by
    rw [digitValues]
    split_ifs with small
    · simpa using small
    · intro x hx
      rw [List.mem_append, List.mem_singleton] at hx
      exact hx.elim (digitValues_lt fuel (n / 10) x) (by rintro rfl; omega)

/-- The digits say the number. -/
theorem foldl_digitValues : ∀ (fuel n : Nat), n < fuel →
    (digitValues fuel n).foldl (fun a x => 10 * a + x) 0 = n
  | 0, _, h => absurd h (Nat.not_lt_zero _)
  | fuel + 1, n, h => by
    rw [digitValues]
    split_ifs with small
    · simp
    · rw [List.foldl_append, foldl_digitValues fuel (n / 10) (by omega), List.foldl_cons, List.foldl_nil]
      omega

/-- There is a digit. -/
theorem length_digitValues_pos : ∀ (fuel n : Nat), n < fuel → 1 ≤ (digitValues fuel n).length
  | 0, _, h => absurd h (Nat.not_lt_zero _)
  | fuel + 1, n, _ => by
    rw [digitValues]
    split_ifs <;> simp

/-- A number below a power of ten has no more digits than its exponent. -/
theorem length_digitValues_le : ∀ (fuel n k : Nat), 1 ≤ k → n < 10 ^ k → (digitValues fuel n).length ≤ k
  | 0, _, _, _, _ => Nat.zero_le _
  | fuel + 1, n, k + 1, _, h => by
    rw [digitValues]
    split_ifs with small
    · simp
    · have shorter : n / 10 < 10 ^ k := by
        rw [pow_succ] at h
        omega
      have some_digit : 1 ≤ k := by
        by_contra no_digit
        have k_eq : k = 0 := by omega
        subst k_eq
        omega
      rw [List.length_append, List.length_singleton]
      exact Nat.succ_le_succ (length_digitValues_le fuel (n / 10) k some_digit shorter)

/-- A number above 0 does not begin with the digit 0. -/
theorem head_digitValues_ne_zero : ∀ (fuel n : Nat), 0 < n → n < fuel → (digitValues fuel n).head? ≠ some 0
  | 0, _, _, h => absurd h (Nat.not_lt_zero _)
  | fuel + 1, n, hn, h => by
    rw [digitValues]
    split_ifs with small
    · simpa using Nat.ne_of_gt hn
    · have first := head_digitValues_ne_zero fuel (n / 10) (by omega) (by omega)
      have some_digit := length_digitValues_pos fuel (n / 10) (by omega)
      cases digits : digitValues fuel (n / 10) with
      | nil => simp [digits] at some_digit
      | cons x r =>
        rw [digits] at first
        simpa using first

/-- The text of a number is its sign and the codes of its digits. -/
theorem dec_eq (n : Int) :
    dec n = (if n < 0 then [0x2D#8] else []) ++ (digitValues (n.natAbs + 1) n.natAbs).map digit := by
  rw [dec, decDigits_eq, List.append_nil]
  split_ifs <;> rfl

end Sys2Proof.Machine

open Sys2Proof Sys2Proof.Machine

/-- Settles O48: `resetAll` overwrites these fields; the content that it takes over keeps the buffer's form. -/
theorem resetPutsTheResetValues : Obligations.ResetPutsTheResetValues := by
  unfold Obligations.ResetPutsTheResetValues
  intro s
  exact ⟨s.resetAll, exec_reset s, rfl, rfl, rfl, rfl, rfl, rfl, rfl, rfl, rfl, rfl, rfl, rfl, rfl, rfl, rfl, rfl, rfl,
    wf_resetAll s, rfl, rfl, rfl, rfl⟩

/-- Settles O49: the fields of the state after reset are these values. -/
theorem resetStateHoldsTheStatedValues : Obligations.ResetStateHoldsTheStatedValues := by
  unfold Obligations.ResetStateHoldsTheStatedValues
  exact ⟨rfl, rfl, rfl, rfl, rfl, rfl, rfl, rfl, rfl, rfl, rfl, rfl, rfl, rfl, rfl, rfl, rfl⟩

/-- Settles O53: an idle parser, registers at 00 with an empty `TX`, and no retry used up. -/
theorem resetMeetsTheInvariants : Obligations.ResetMeetsTheInvariants := by
  unfold Obligations.ResetMeetsTheInvariants
  exact ⟨parserInv_of_start rfl rfl wf_reset, rpcInv_of_reset rfl rfl rfl, managerInv_reset⟩

/-- Settles O58: the distance modulo 2^32 is `k` after the deadline and `2^32 - k` before it. -/
theorem reachedIsRightAcrossTheWrap : Obligations.ReachedIsRightAcrossTheWrap := by
  unfold Obligations.ReachedIsRightAcrossTheWrap
  intro d k
  have d_lt := d.isLt
  constructor
  · intro soon
    have distance : (d + BitVec.ofNat 32 k - d).toNat = k := by
      simp only [BitVec.toNat_sub, BitVec.toNat_add, BitVec.toNat_ofNat]
      omega
    rw [reached_iff, distance]
    exact soon
  · intro positive near
    have distance : (d - BitVec.ofNat 32 k - d).toNat = 2 ^ 32 - k := by
      simp only [BitVec.toNat_sub, BitVec.toNat_ofNat]
      omega
    rw [Bool.eq_false_iff, Ne, reached_iff, distance]
    omega

/-- Settles O59: a signal strength is at most 128 in size, so three digits are enough. -/
theorem signalStrengthText : Obligations.SignalStrengthText := by
  unfold Obligations.SignalStrengthText
  intro r
  have size : r.toInt.natAbs < 10 ^ 3 := by
    have low := BitVec.le_toInt r
    have high := BitVec.toInt_lt (x := r)
    omega
  have fuel : r.toInt.natAbs < r.toInt.natAbs + 1 := Nat.lt_succ_self _
  refine ⟨digitValues (r.toInt.natAbs + 1) r.toInt.natAbs, digitValues_lt _ _, length_digitValues_pos _ _ fuel,
    length_digitValues_le _ _ 3 (by decide) size, fun two_digits => ?_, foldl_digitValues _ _ fuel, dec_eq _⟩
  refine head_digitValues_ne_zero _ _ (Nat.pos_of_ne_zero fun zero => ?_) fuel
  rw [zero] at two_digits
  exact absurd two_digits (by decide)

end
